-- ==== Sys2Proof/Word.lean ====
section
/-! DEFINITION. The two word types of the block (00_scope.md R8): a register or command word of 32 bits and a byte of 8 bits. -/

namespace Sys2Proof

/-- A register value, a command word or a CRC: 32 bits, unsigned (R8, R11). -/
abbrev Word := BitVec 32

/-- A byte of a stream or of a type code: 8 bits, unsigned (R8, R11). -/
abbrev Byte := BitVec 8

end Sys2Proof
end

