-- ==== Sys2Proof/Config.lean ====
section
/-! DEFINITION. The constants of the block (41_crc.md R120) and the free values of a loss of power (60_exceptions.md R176).

The spec's open parameter BASE (R9) is the field `baseIndex` of State, so that every statement binds it as a variable (92 D2). BUS_PROTOCOL (R9) has no counterpart: the model is at transaction level (R6). -/

namespace Sys2Proof.Config

/-- The polynomial of CRC-32/ISO-HDLC in reflected form (R120; 90_conflicts.md C2). -/
def crcPoly : Word := 0xEDB88320

/-- The initial value of CRC_STATE (R120, R24). -/
def crcInit : Word := 0xFFFFFFFF

/-- The final XOR that turns CRC_STATE into CRC_RESULT (R120, R23). -/
def crcFinalXor : Word := 0xFFFFFFFF

/-- The number of bytes of the register window (R50). -/
def windowBytes : Nat := 32

/-- FREE VALUE (R176, U7 "any value"; log 7): ARG after the n-th loss of power. -/
opaque powerUpArg : Nat → Word

/-- FREE VALUE (R176, U7; log 7): CRC_STATE after the n-th loss of power. -/
opaque powerUpCrcState : Nat → Word

/-- FREE VALUE (R176, U7; log 7): BYTE_COUNT after the n-th loss of power. -/
opaque powerUpByteCount : Nat → Word

/-- FREE VALUE (R176, U7; log 7): TYPE after the n-th loss of power. -/
opaque powerUpTypeReg : Nat → Word

/-- FREE VALUE (R176, U7; log 7): the stored fields of STATUS after the n-th loss of power, read from a word laid out as R27. -/
opaque powerUpStatus : Nat → Word

end Sys2Proof.Config
end

