-- ==== Sys2Proof/Syntax.lean ====
section
/-! DEFINITION. The host's accesses to the window (30_encoding.md R70) and the instructions: one constructor per row of spec/opcode_table.json. -/

namespace Sys2Proof

/-- What an access does on the bus: a read or a write of `width` bits, a write with as many bits of data (R70, R52). -/
inductive BusOp where
  | read (width : Nat)
  | write (width : Nat) (data : BitVec width)
deriving DecidableEq, Repr

/-- The width in bits of an access. -/
def BusOp.width : BusOp → Nat
  | .read w => w
  | .write w _ => w

/-- An access that has reached the window: the triple (kind, offset, data) of R80, with its width. -/
structure Access where
  op : BusOp
  /-- The offset from BASE (R72). -/
  off : Nat
deriving DecidableEq, Repr

/-- The instructions of the block: the commands written to CMD (R75, R153), the reads and writes of its registers (R51) and the malformed access (R52). -/
inductive Instr where
  -- CMD format (R75)
  | nop
  | crcInit
  | crcFeed1
  | crcFeed2
  | crcFeed3
  | crcFeed4
  | crcCheck
  | typeCheck
  | typeFeed
  | clearStatus
  /-- A write to CMD of a word that is none of the ten commands (R77, R153). -/
  | illegal (w : Word)
  -- BUS-R format (R51)
  | rCmd
  | rArg
  | rStatus
  | rCrcState
  | rCrcResult
  | rByteCount
  | rType
  | rReserved
  -- BUS-W format (R51, R53)
  | wArg (v : Word)
  | wStatus (v : Word)
  | wCrcState (v : Word)
  | wCrcResult (v : Word)
  | wByteCount (v : Word)
  | wType (v : Word)
  | wReserved (v : Word)
  /-- A misaligned or non-32-bit access (R52). -/
  | busError (a : Access)
deriving DecidableEq, Repr

end Sys2Proof
end

