-- ==== Sys2Proof/Machine/State.lean ====
section
/-! DEFINITION. The state of the machine (10_state.md): the block's five registers, and the model's own fields around them (what the outside does next, what it last observed, the parameter BASE). -/

namespace Sys2Proof.Machine

/-- The stored fields of STATUS (R27). The reserved bits 15:11 and 31:20 have no storage: they read as 0 in every state (R39; log 8). -/
structure Status where
  /-- Bit 0 (R28): the last type check passed. -/
  typeValid : Bool
  /-- Bit 1 (R29): the last type check failed. -/
  typeErr : Bool
  /-- Bits 3:2 (R30): index of the first non-letter byte of the last failed check. -/
  typeErrIdx : BitVec 2
  /-- Bit 4 (R31). -/
  critical : Bool
  /-- Bit 5 (R32): the field PUBLIC. -/
  publicBit : Bool
  /-- Bit 6 (R33). -/
  reservedValid : Bool
  /-- Bit 7 (R34). -/
  safeToCopy : Bool
  /-- Bit 8 (R35). -/
  crcMatch : Bool
  /-- Bit 9 (R36). -/
  crcErr : Bool
  /-- Bit 10 (R37): sticky. -/
  cmdErr : Bool
  /-- Bits 19:16 (R38): code of the most recent error. -/
  lastErr : BitVec 4
deriving DecidableEq, Repr

/-- STATUS after reset: every field 0 (R27, R180). -/
def Status.reset : Status where
  typeValid := false
  typeErr := false
  typeErrIdx := 0
  critical := false
  publicBit := false
  reservedValid := false
  safeToCopy := false
  crcMatch := false
  crcErr := false
  cmdErr := false
  lastErr := 0

/-- The complete state of the block (R20): five 32-bit registers, of which STATUS holds its stored fields. CMD, CRC_RESULT and offset 0x1C hold none. -/
structure Block where
  /-- ARG, offset 0x04 (R22). -/
  arg : Word
  /-- CRC_STATE, offset 0x0C (R24). -/
  crcState : Word
  /-- BYTE_COUNT, offset 0x14 (R25). -/
  byteCount : Word
  /-- TYPE, offset 0x18 (R26). -/
  typeReg : Word
  /-- STATUS, offset 0x08 (R27). -/
  status : Status
deriving DecidableEq, Repr

/-- The block after reset (R180). -/
def Block.reset : Block where
  arg := 0x00000000
  crcState := 0xFFFFFFFF
  byteCount := 0x00000000
  typeReg := 0x00000000
  status := Status.reset

/-- What the host observes of one access (R7). -/
inductive Response where
  /-- A completed read and its data. -/
  | data (v : Word)
  /-- A completed write (R53, R153: the bus write itself completes without a bus error). -/
  | written
  /-- An error response (R164). -/
  | busError
deriving DecidableEq, Repr

/-- What the outside can do to the machine. -/
inductive HostInput where
  /-- The host issues an access at a bus address (R6, R65). -/
  | access (op : BusOp) (addr : Nat)
  /-- The reset input is applied (true) or released (false) (R180). -/
  | reset (applied : Bool)
  /-- Power is lost and restored (R176). -/
  | powerLoss
deriving DecidableEq, Repr

/-- The machine has no fault of the spec: no error traps, aborts or stops the block (R165), and a bus error is a response after which it goes on (R164). The one constructor guards a case that never arises. -/
inductive Fault where
  /-- Raised by `step` if the decoder rejected an access inside the window. It accepts every one of them, so no step raises this (R165; log 11). Safe: no next state is claimed. -/
  | accessNotDecoded
deriving DecidableEq, Repr

/-- Why the model takes no step. -/
inductive Refusal where
  /-- Raised by an arm of `exec` whose instruction has no meaning yet (none is left). Safe: no next state is claimed. -/
  | notModelled (mnemonic : String)
  /-- Raised by `step` for an access that overlaps reset: it has no defined effect or response, and a model refuses it (R181; log 6). Safe: no next state is claimed. -/
  | accessDuringReset
deriving DecidableEq, Repr

/-- The machine: the block (R20) and the model's own fields around it, which R45 keeps apart from it. -/
structure State where
  /-- The block's registers (R20). -/
  block : Block
  /-- What the host observed of the last input; none where the block answered nothing (R7; log 9). -/
  response : Option Response
  /-- What the outside does next, oldest first (R6, R60; log 1). -/
  inputs : List HostInput
  /-- The level of the reset input (R180, R181; log 6). -/
  resetLine : Bool
  /-- The parameter BASE is `32 * baseIndex` (R9; log 3). -/
  baseIndex : Nat
  /-- The number of losses of power so far, which the free values of R176 are drawn by (log 7). -/
  powerUps : Nat
deriving DecidableEq, Repr

/-- The machine right after reset (R180), with nothing pending from outside. The values of the model's own fields are DESIGN CHOICE (logs 1, 3, 6, 7, 9). -/
def State.reset : State where
  block := Block.reset
  response := none
  inputs := []
  resetLine := false
  baseIndex := 0
  powerUps := 0

end Sys2Proof.Machine
end

