-- ==== Sys2Proof/Machine/Operands.lean ====
section
/-! DEFINITION. The operand forms: the bytes a command takes from ARG (30_encoding.md R73, R74), and addresses of the window (R65). -/

namespace Sys2Proof.Machine

/-- `byteN(v, n, i)` of R74: byte i of the n low bytes of v, the most significant first. -/
def byteN (v : Word) (n i : Nat) : Byte :=
  v.extractLsb' (8 * (n - 1 - i)) 8

/-- The n bytes a command takes from ARG, in the order it uses them (R73, R74). -/
def argBytes (v : Word) (n : Nat) : List Byte :=
  (List.range n).map (byteN v n)

/-- BASE, the bus address of offset 0x00: any 32-byte-aligned address (R9). -/
def State.base (s : State) : Nat :=
  32 * s.baseIndex

/-- The access a bus address selects in the window, none where the address lies outside it and the access does not reach the block (R50, R65, R164). The address of an access is that of its lowest byte: DESIGN CHOICE (log 4). -/
def State.select (s : State) (op : BusOp) (addr : Nat) : Option Access :=
  if s.base ≤ addr ∧ addr < s.base + Config.windowBytes then some ⟨op, addr - s.base⟩ else none

end Sys2Proof.Machine
end

