-- ==== Sys2Proof/Machine/CrcMath.lean ====
section
/-! DEFINITION. The CRC functions (41_crc.md R120 to R123): the one-byte update, streams, the table. -/

namespace Sys2Proof.Machine

/-- One turn of the loop of `Feed` (R121). -/
def feedBit (s : Word) : Word :=
  if s.getLsbD 0 then (s >>> 1) ^^^ Config.crcPoly else s >>> 1

/-- n turns of the loop of `Feed` (R121). -/
def feedBits : Nat → Word → Word
  | 0, s => s
  | n + 1, s => feedBits n (feedBit s)

/-- `Feed(s, b)` of R121: b enters the low 8 bits, then eight turns. -/
def feed (s : Word) (b : Byte) : Word :=
  feedBits 8 (s ^^^ b.setWidth 32)

/-- `FeedAll(s, m)` of R123. -/
def feedAll (s : Word) : List Byte → Word
  | [] => s
  | b :: rest => feedAll (feed s b) rest

/-- `CRC32(m)` of R123. -/
def crc32 (m : List Byte) : Word :=
  feedAll Config.crcInit m ^^^ Config.crcFinalXor

/-- `T[i]` of R122, the entry of the constant CRC table that no access reads or changes. -/
def crcTableEntry (i : Byte) : Word :=
  feed (i.setWidth 32) 0

/-- CRC_RESULT (R23): computed on each read, stored nowhere. -/
def Block.crcResult (b : Block) : Word :=
  b.crcState ^^^ Config.crcFinalXor

end Sys2Proof.Machine
end

