-- ==== Sys2Proof/Machine/Flags.lean ====
section
/-! DEFINITION. The computations STATUS shows: its layout (10_state.md R27), the letter test, the classification and the property bits of a type code (40_typecode.md R100 to R102). -/

namespace Sys2Proof.Machine

/-- STATUS as the word a read returns (R27), the reserved bits 0 (R39). -/
def Status.toWord (st : Status) : Word :=
  0#12 ++ st.lastErr ++ 0#5 ++ BitVec.ofBool st.cmdErr ++ BitVec.ofBool st.crcErr
    ++ BitVec.ofBool st.crcMatch ++ BitVec.ofBool st.safeToCopy ++ BitVec.ofBool st.reservedValid
    ++ BitVec.ofBool st.publicBit ++ BitVec.ofBool st.critical ++ st.typeErrIdx
    ++ BitVec.ofBool st.typeErr ++ BitVec.ofBool st.typeValid

/-- The stored fields at their places in a word (R27); its reserved bits are dropped. -/
def Status.ofWord (w : Word) : Status where
  typeValid := w.getLsbD 0
  typeErr := w.getLsbD 1
  typeErrIdx := w.extractLsb' 2 2
  critical := w.getLsbD 4
  publicBit := w.getLsbD 5
  reservedValid := w.getLsbD 6
  safeToCopy := w.getLsbD 7
  crcMatch := w.getLsbD 8
  crcErr := w.getLsbD 9
  cmdErr := w.getLsbD 10
  lastErr := w.extractLsb' 16 4

/-- `IsLetter(b)` of R100. -/
def isLetter (b : Byte) : Bool :=
  (decide (0x41 ≤ b.toNat) && decide (b.toNat ≤ 0x5A)) ||
    (decide (0x61 ≤ b.toNat) && decide (b.toNat ≤ 0x7A))

/-- The answer of a type check (R101). -/
inductive Verdict where
  | valid
  | invalid (k : BitVec 2)
deriving DecidableEq, Repr

/-- The loop of `Classify` (R101) from byte i on: the first byte that is no letter. -/
def classifyFrom (v : Word) : List (BitVec 2) → Verdict
  | [] => .valid
  | i :: rest => if isLetter (byteN v 4 i.toNat) then classifyFrom v rest else .invalid i

/-- `Classify(v)` of R101. -/
def classify (v : Word) : Verdict :=
  classifyFrom v [0, 1, 2, 3]

/-- `Critical(v)` of R102: bit 5 of byte 0 is clear. -/
def critical (v : Word) : Bool :=
  !(byteN v 4 0).getLsbD 5

/-- `Public(v)` of R102: bit 5 of byte 1 is clear. -/
def publicBit (v : Word) : Bool :=
  !(byteN v 4 1).getLsbD 5

/-- `ReservedValid(v)` of R102: bit 5 of byte 2 is clear. -/
def reservedValid (v : Word) : Bool :=
  !(byteN v 4 2).getLsbD 5

/-- `SafeToCopy(v)` of R102: bit 5 of byte 3 is set. -/
def safeToCopy (v : Word) : Bool :=
  (byteN v 4 3).getLsbD 5

end Sys2Proof.Machine
end

