-- ==== Sys2Proof/Machine/Ops.lean ====
section
/-! DEFINITION. The named operations over the registers: updates, raising an error (60_exceptions.md R160 to R168) and its return (R169), feeding, checking a type, and the completion of an access (R51). -/

namespace Sys2Proof.Machine

/-- `ARG <- v`. -/
def Block.setArg (b : Block) (v : Word) : Block := { b with arg := v }

/-- `CRC_STATE <- c ; BYTE_COUNT <- n`. -/
def Block.setCrc (b : Block) (c n : Word) : Block := { b with crcState := c, byteCount := n }

/-- `TYPE <- v`. -/
def Block.setType (b : Block) (v : Word) : Block := { b with typeReg := v }

/-- Writes STATUS as a whole. -/
def Block.setStatus (b : Block) (st : Status) : Block := { b with status := st }

/-- The registers of the block are replaced. -/
def State.setBlock (s : State) (b : Block) : State := { s with block := b }

/-- The answer to the access at hand (R7). -/
def State.respond (s : State) (r : Option Response) : State := { s with response := r }

/-- What the outside still does. -/
def State.setInputs (s : State) (is : List HostInput) : State := { s with inputs := is }

/-- The level of the reset input. -/
def State.setResetLine (s : State) (applied : Bool) : State := { s with resetLine := applied }

/-- The count of losses of power. -/
def State.setPowerUps (s : State) (n : Nat) : State := { s with powerUps := n }

/-- The errors of R160. -/
inductive CmdError where
  /-- TYPE, with the index of the first byte that is no letter (R161). -/
  | type (k : BitVec 2)
  /-- CRC (R162). -/
  | crc
  /-- CMD (R163). -/
  | cmd
deriving DecidableEq, Repr

/-- The code LAST_ERR records for an error (R160). -/
def CmdError.code : CmdError → BitVec 4
  | .type _ => 1
  | .crc => 2
  | .cmd => 3

/-- What raising an error writes: the STATUS write of the error's rule is the whole entry; no state is saved, no vector taken, and the block goes on (R160 to R163, R165, R168). -/
def Block.raise (b : Block) (e : CmdError) : Block :=
  match e with
  | .type k =>
    (b.setType 0).setStatus
      { b.status with
        typeValid := false, typeErr := true, typeErrIdx := k
        critical := false, publicBit := false, reservedValid := false, safeToCopy := false
        lastErr := e.code }
  | .crc => b.setStatus { b.status with crcMatch := false, crcErr := true, lastErr := e.code }
  | .cmd => b.setStatus { b.status with cmdErr := true, lastErr := e.code }

/-- The return from an error (R169, R152): every error indication is cleared, nothing else. -/
def Block.clearErrors (b : Block) : Block :=
  b.setStatus
    { b.status with typeErr := false, typeErrIdx := 0, crcErr := false, cmdErr := false, lastErr := 0 }

/-- Appends bytes to the stream (R123, R25): CRC_STATE takes each in turn, BYTE_COUNT counts them modulo 2^32. -/
def Block.feedBytes (b : Block) (m : List Byte) : Block :=
  b.setCrc (feedAll b.crcState m) (b.byteCount + BitVec.ofNat 32 m.length)

/-- A type code has passed its check (R105, the case Valid). -/
def Block.acceptType (b : Block) (v : Word) : Block :=
  (b.setType v).setStatus
    { b.status with
      typeValid := true, typeErr := false, typeErrIdx := 0
      critical := critical v, publicBit := publicBit v
      reservedValid := reservedValid v, safeToCopy := safeToCopy v }

/-- The whole of TYPE_CHECK on the value v (R105). -/
def Block.checkType (b : Block) (v : Word) : Block :=
  match classify v with
  | .valid => b.acceptType v
  | .invalid k => b.raise (.type k)

/-- An access completes: the registers are as given and the host observes the response (R7, R13). -/
def State.complete (s : State) (b : Block) (r : Response) : Host.Outcome State Fault Refusal :=
  .next ((s.setBlock b).respond (some r))

/-- A command written to CMD completes: all its writes land together and the bus write answers without an error (R13, R40, R153). -/
def State.command (s : State) (b : Block) : Host.Outcome State Fault Refusal :=
  s.complete b .written

/-- A read completes: its data is returned and no register changes (R51, R54). -/
def State.readData (s : State) (v : Word) : Host.Outcome State Fault Refusal :=
  s.complete s.block (.data v)

/-- A write to a read-only or reserved offset completes without effect and without an error (R53). -/
def State.writeIgnored (s : State) : Host.Outcome State Fault Refusal :=
  s.complete s.block .written

end Sys2Proof.Machine
end

