-- ==== Sys2Proof/Machine/Bus.lean ====
section
/-! DEFINITION. The register accesses (20_memory.md R51 to R53) and the refused access (R52, R164). -/

namespace Sys2Proof.Machine

/-- Read of CMD (R40): 0. -/
def execRCmd (s : State) : Host.Outcome State Fault Refusal :=
  s.readData 0

/-- Read of ARG (R22). -/
def execRArg (s : State) : Host.Outcome State Fault Refusal :=
  s.readData s.block.arg

/-- Read of STATUS (R27). -/
def execRStatus (s : State) : Host.Outcome State Fault Refusal :=
  s.readData s.block.status.toWord

/-- Read of CRC_STATE (R24). -/
def execRCrcState (s : State) : Host.Outcome State Fault Refusal :=
  s.readData s.block.crcState

/-- Read of CRC_RESULT (R23). -/
def execRCrcResult (s : State) : Host.Outcome State Fault Refusal :=
  s.readData s.block.crcResult

/-- Read of BYTE_COUNT (R25). -/
def execRByteCount (s : State) : Host.Outcome State Fault Refusal :=
  s.readData s.block.byteCount

/-- Read of TYPE (R26). -/
def execRType (s : State) : Host.Outcome State Fault Refusal :=
  s.readData s.block.typeReg

/-- Read of offset 0x1C (R41): 0. -/
def execRReserved (s : State) : Host.Outcome State Fault Refusal :=
  s.readData 0

/-- Write of ARG (R22). -/
def execWArg (v : Word) (s : State) : Host.Outcome State Fault Refusal :=
  s.complete (s.block.setArg v) .written

/-- Write to STATUS (R53). -/
def execWStatus (_v : Word) (s : State) : Host.Outcome State Fault Refusal :=
  s.writeIgnored

/-- Write to CRC_STATE (R53). -/
def execWCrcState (_v : Word) (s : State) : Host.Outcome State Fault Refusal :=
  s.writeIgnored

/-- Write to CRC_RESULT (R53). -/
def execWCrcResult (_v : Word) (s : State) : Host.Outcome State Fault Refusal :=
  s.writeIgnored

/-- Write to BYTE_COUNT (R53). -/
def execWByteCount (_v : Word) (s : State) : Host.Outcome State Fault Refusal :=
  s.writeIgnored

/-- Write to TYPE (R53). -/
def execWType (_v : Word) (s : State) : Host.Outcome State Fault Refusal :=
  s.writeIgnored

/-- Write to offset 0x1C (R41, R53). -/
def execWReserved (_v : Word) (s : State) : Host.Outcome State Fault Refusal :=
  s.writeIgnored

/-- A malformed access (R52, R164): an error response, no state change. What the host does on it is the host's (log 5). -/
def execBusError (_a : Access) (s : State) : Host.Outcome State Fault Refusal :=
  s.complete s.block .busError

end Sys2Proof.Machine
end

