-- ==== Sys2Proof/Machine/Control.lean ====
section
/-! DEFINITION. The control commands and the illegal words (42_control.md R150 to R153). -/

namespace Sys2Proof.Machine

/-- NOP (R150): no register changes. -/
def execNop (s : State) : Host.Outcome State Fault Refusal :=
  s.command s.block

/-- CLEAR_STATUS (R152). -/
def execClearStatus (s : State) : Host.Outcome State Fault Refusal :=
  s.command s.block.clearErrors

/-- An illegal command word (R153): the CMD error (R163); the word is not recorded. -/
def execIllegal (_w : Word) (s : State) : Host.Outcome State Fault Refusal :=
  s.command (s.block.raise .cmd)

end Sys2Proof.Machine
end

