-- ==== Sys2Proof/Machine/Crc.lean ====
section
/-! DEFINITION. The CRC engine's commands (41_crc.md R126 to R131). -/

namespace Sys2Proof.Machine

/-- CRC_INIT (R126). -/
def execCrcInit (s : State) : Host.Outcome State Fault Refusal :=
  s.command ((s.block.setCrc Config.crcInit 0).setStatus
    { s.block.status with crcMatch := false, crcErr := false })

/-- CRC_FEED1 (R127): ARG[7:0]. -/
def execCrcFeed1 (s : State) : Host.Outcome State Fault Refusal :=
  s.command (s.block.feedBytes (argBytes s.block.arg 1))

/-- CRC_FEED2 (R128): ARG[15:8], then ARG[7:0]. -/
def execCrcFeed2 (s : State) : Host.Outcome State Fault Refusal :=
  s.command (s.block.feedBytes (argBytes s.block.arg 2))

/-- CRC_FEED3 (R129): ARG[23:16], ARG[15:8], ARG[7:0]. -/
def execCrcFeed3 (s : State) : Host.Outcome State Fault Refusal :=
  s.command (s.block.feedBytes (argBytes s.block.arg 3))

/-- CRC_FEED4 (R130): ARG[31:24] first. -/
def execCrcFeed4 (s : State) : Host.Outcome State Fault Refusal :=
  s.command (s.block.feedBytes (argBytes s.block.arg 4))

/-- CRC_CHECK (R131): all 32 bits of CRC_RESULT against ARG; a mismatch raises the CRC error (R162). -/
def execCrcCheck (s : State) : Host.Outcome State Fault Refusal :=
  s.command
    (if s.block.crcResult = s.block.arg then
      s.block.setStatus { s.block.status with crcMatch := true, crcErr := false }
    else s.block.raise .crc)

end Sys2Proof.Machine
end

