-- ==== Sys2Proof/Machine/TypeCode.lean ====
section
/-! DEFINITION. The TypeCode classifier's commands (40_typecode.md R105, R106). -/

namespace Sys2Proof.Machine

/-- TYPE_CHECK (R105). -/
def execTypeCheck (s : State) : Host.Outcome State Fault Refusal :=
  s.command (s.block.checkType s.block.arg)

/-- TYPE_FEED (R106): TYPE_CHECK, and only for a valid code the feed of its four bytes. -/
def execTypeFeed (s : State) : Host.Outcome State Fault Refusal :=
  s.command
    (match classify s.block.arg with
    | .valid => (s.block.checkType s.block.arg).feedBytes (argBytes s.block.arg 4)
    | .invalid _ => s.block.checkType s.block.arg)

end Sys2Proof.Machine
end

