-- ==== Sys2Proof/Machine/Dispatch.lean ====
section
/-! DEFINITION. One arm per instruction. -/

namespace Sys2Proof.Machine

def exec (i : Instr) (s : State) : Host.Outcome State Fault Refusal :=
  match i with
  | .nop => Sys2Proof.Machine.execNop s
  | .crcInit => Sys2Proof.Machine.execCrcInit s
  | .crcFeed1 => Sys2Proof.Machine.execCrcFeed1 s
  | .crcFeed2 => Sys2Proof.Machine.execCrcFeed2 s
  | .crcFeed3 => Sys2Proof.Machine.execCrcFeed3 s
  | .crcFeed4 => Sys2Proof.Machine.execCrcFeed4 s
  | .crcCheck => Sys2Proof.Machine.execCrcCheck s
  | .typeCheck => Sys2Proof.Machine.execTypeCheck s
  | .typeFeed => Sys2Proof.Machine.execTypeFeed s
  | .clearStatus => Sys2Proof.Machine.execClearStatus s
  | .illegal w => Sys2Proof.Machine.execIllegal w s
  | .rCmd => Sys2Proof.Machine.execRCmd s
  | .rArg => Sys2Proof.Machine.execRArg s
  | .rStatus => Sys2Proof.Machine.execRStatus s
  | .rCrcState => Sys2Proof.Machine.execRCrcState s
  | .rCrcResult => Sys2Proof.Machine.execRCrcResult s
  | .rByteCount => Sys2Proof.Machine.execRByteCount s
  | .rType => Sys2Proof.Machine.execRType s
  | .rReserved => Sys2Proof.Machine.execRReserved s
  | .wArg v => Sys2Proof.Machine.execWArg v s
  | .wStatus v => Sys2Proof.Machine.execWStatus v s
  | .wCrcState v => Sys2Proof.Machine.execWCrcState v s
  | .wCrcResult v => Sys2Proof.Machine.execWCrcResult v s
  | .wByteCount v => Sys2Proof.Machine.execWByteCount v s
  | .wType v => Sys2Proof.Machine.execWType v s
  | .wReserved v => Sys2Proof.Machine.execWReserved v s
  | .busError a => Sys2Proof.Machine.execBusError a s

end Sys2Proof.Machine
end

