-- ==== Sys2Proof/WellFormed.lean ====
section
/-! DEFINITION. Which instructions are well formed: an illegal command carries a word that is illegal (R77), a malformed access is one that R52 refuses, inside the window. -/

namespace Sys2Proof

/-- The illegal command words of R77: RSV not zero, or OPC in 0x0A..0xFF. -/
def illegalWord (w : Word) : Bool :=
  w.extractLsb' 8 24 != 0 || decide (0x0A ≤ (w.extractLsb' 0 8).toNat)

/-- The accesses R52 refuses with a bus error: not 32 bits wide, or an offset that is no multiple of 4. -/
def Access.malformed (a : Access) : Bool :=
  a.op.width != 32 || a.off % 4 != 0

/-- The access lies in the 32-byte window (R50). -/
def Access.inWindow (a : Access) : Bool :=
  decide (a.off < Config.windowBytes)

/-- Well-formed instructions. Every operand value of a register write is legal (R22, R72). -/
def Instr.wf : Instr → Bool
  | .illegal w => illegalWord w
  | .busError a => a.malformed && a.inWindow
  | .nop | .crcInit | .crcFeed1 | .crcFeed2 | .crcFeed3 | .crcFeed4 | .crcCheck | .typeCheck
  | .typeFeed | .clearStatus => true
  | .rCmd | .rArg | .rStatus | .rCrcState | .rCrcResult | .rByteCount | .rType | .rReserved => true
  | .wArg _ | .wStatus _ | .wCrcState _ | .wCrcResult _ | .wByteCount _ | .wType _
  | .wReserved _ => true

end Sys2Proof
end

