-- ==== Sys2Proof/Decode.lean ====
section
/-! DEFINITION. The decoder of an access (30_encoding.md R70 to R79), total, the encoder, and the reading of the opcode table's words. -/

namespace Sys2Proof

/-- Why an access decodes to no instruction. -/
inductive DecodeReject where
  /-- The offset lies outside the 32-byte window: such an access does not reach the block (R164). -/
  | outsideWindow
deriving DecidableEq, Repr

/-- `Execute(w)` of R76 as a decoder: the test on RSV comes first, then OPC selects. -/
def decodeCmd (w : Word) : Instr :=
  if w.extractLsb' 8 24 ≠ 0 then .illegal w
  else match (w.extractLsb' 0 8).toNat with
    | 0x00 => .nop
    | 0x01 => .crcInit
    | 0x02 => .crcFeed1
    | 0x03 => .crcFeed2
    | 0x04 => .crcFeed3
    | 0x05 => .crcFeed4
    | 0x06 => .crcCheck
    | 0x07 => .typeCheck
    | 0x08 => .typeFeed
    | 0x09 => .clearStatus
    | _ => .illegal w

/-- `BusRead(off)` of R51: the register a 32-bit aligned read names. -/
def decodeRead (off : Nat) : Except DecodeReject Instr :=
  match off with
  | 0x00 => .ok .rCmd
  | 0x04 => .ok .rArg
  | 0x08 => .ok .rStatus
  | 0x0C => .ok .rCrcState
  | 0x10 => .ok .rCrcResult
  | 0x14 => .ok .rByteCount
  | 0x18 => .ok .rType
  | 0x1C => .ok .rReserved
  | _ => .error .outsideWindow

/-- `BusWrite(off, v)` of R51: the register a 32-bit aligned write names; at CMD the data is the command word. -/
def decodeWrite (off : Nat) (v : Word) : Except DecodeReject Instr :=
  match off with
  | 0x00 => .ok (decodeCmd v)
  | 0x04 => .ok (.wArg v)
  | 0x08 => .ok (.wStatus v)
  | 0x0C => .ok (.wCrcState v)
  | 0x10 => .ok (.wCrcResult v)
  | 0x14 => .ok (.wByteCount v)
  | 0x18 => .ok (.wType v)
  | 0x1C => .ok (.wReserved v)
  | _ => .error .outsideWindow

/-- The decoder, total on accesses. An access outside the window is rejected by name; a malformed one is decided before anything else about it (R52, R167(a)). The data of a serviced write is 32 bits already, so `setWidth` changes none of it. -/
def decode (a : Access) : Except DecodeReject Instr :=
  if !a.inWindow then .error .outsideWindow
  else if a.malformed then .ok (.busError a)
  else match a.op with
    | .read _ => decodeRead a.off
    | .write _ v => decodeWrite a.off (v.setWidth 32)

/-- A 32-bit read at an offset (format BUS-R, R70). -/
def read32 (off : Nat) : Access := ⟨.read 32, off⟩

/-- A 32-bit write at an offset (format BUS-W, R70). -/
def write32 (off : Nat) (v : Word) : Access := ⟨.write 32 v, off⟩

/-- The encoder: the access of an instruction, from the opcode map of R75 and the register map of R21. -/
def encode : Instr → Access
  | .nop => write32 0x00 0x00000000
  | .crcInit => write32 0x00 0x00000001
  | .crcFeed1 => write32 0x00 0x00000002
  | .crcFeed2 => write32 0x00 0x00000003
  | .crcFeed3 => write32 0x00 0x00000004
  | .crcFeed4 => write32 0x00 0x00000005
  | .crcCheck => write32 0x00 0x00000006
  | .typeCheck => write32 0x00 0x00000007
  | .typeFeed => write32 0x00 0x00000008
  | .clearStatus => write32 0x00 0x00000009
  | .illegal w => write32 0x00 w
  | .rCmd => read32 0x00
  | .rArg => read32 0x04
  | .rStatus => read32 0x08
  | .rCrcState => read32 0x0C
  | .rCrcResult => read32 0x10
  | .rByteCount => read32 0x14
  | .rType => read32 0x18
  | .rReserved => read32 0x1C
  | .wArg v => write32 0x04 v
  | .wStatus v => write32 0x08 v
  | .wCrcState v => write32 0x0C v
  | .wCrcResult v => write32 0x10 v
  | .wByteCount v => write32 0x14 v
  | .wType v => write32 0x18 v
  | .wReserved v => write32 0x1C v
  | .busError a => a

/-- The access that a word of spec/opcode_table.json stands for. A row of 32 bits is a command word, written to CMD (format CMD, R70). A row of 5 bits, so one byte, names only the offset (bits 4:0) and gives no direction: DESIGN CHOICE (log 10), bit 5 clear is a read and bit 5 set a write, whose data are the bits from 8 on (zero in a one-byte word; a 40-bit word holds them all). -/
def tableAccess (nbits w : Nat) : Option Access :=
  if nbits = 32 then some (write32 0x00 (BitVec.ofNat 32 w))
  else if nbits = 8 ∨ nbits = 40 then
    if w / 32 % 8 = 0 then some (read32 (w % 32))
    else if w / 32 % 8 = 1 then some (write32 (w % 32) (BitVec.ofNat 32 (w / 256)))
    else none
  else none

/-- The instruction the decoder reads from a word of the opcode table. -/
def decodeTableWord (nbits w : Nat) : Option Instr :=
  match tableAccess nbits w with
  | none => none
  | some a =>
    match decode a with
    | .ok i => some i
    | .error _ => none

end Sys2Proof
end

