-- ==== Sys2Proof/Machine/Fetch.lean ====
section
/-! DEFINITION. What the next input of the outside does: an access is brought to the decoder, reset (70_reset_and_hazards.md R180, R181) and power (60_exceptions.md R176) act on the block. -/

namespace Sys2Proof.Machine

/-- What a step has to do after it took the next input. -/
inductive Fetched where
  /-- Nothing more: the input has had its effect. -/
  | done (s : State)
  /-- The access decoded to an instruction, to run in this state. -/
  | run (i : Instr) (s : State)
  /-- The machine is stuck; never the case (log 11). -/
  | stuck (f : Fault)
  /-- The model takes no step. -/
  | stop (r : Refusal)
deriving DecidableEq, Repr

/-- Every stored register takes its reset value; the block answers nothing (R180). -/
def State.applyReset (s : State) : State :=
  (s.setBlock Block.reset).respond none

/-- The block with the n-th free values of a loss of power (R176, U7 "any value"; log 7). -/
def powerUpBlock (n : Nat) : Block where
  arg := Config.powerUpArg n
  crcState := Config.powerUpCrcState n
  byteCount := Config.powerUpByteCount n
  typeReg := Config.powerUpTypeReg n
  status := Status.ofWord (Config.powerUpStatus n)

/-- Power is lost and restored: no state is guaranteed to survive (R176). Where reset is applied all the while, the registers take their reset values (R180; DEDUCED, log 7). -/
def State.losePower (s : State) : State :=
  if s.resetLine then (s.applyReset).setPowerUps (s.powerUps + 1)
  else ((s.setBlock (powerUpBlock s.powerUps)).respond none).setPowerUps (s.powerUps + 1)

/-- An access from the host, in the state with its input taken: outside the window it does not reach the block (R164; log 4), during reset it is refused (R181; log 6), else it is decoded. -/
def State.fetchAccess (s : State) (op : BusOp) (addr : Nat) : Fetched :=
  match s.select op addr with
  | none => .done (s.respond none)
  | some a =>
    if s.resetLine then .stop .accessDuringReset
    else match decode a with
      | .ok i => .run i s
      | .error .outsideWindow => .stuck .accessNotDecoded

/-- Takes the next input. With none pending the machine does nothing: the block performs no step on its own (R6; log 2). -/
def State.fetch (s : State) : Fetched :=
  match s.inputs with
  | [] => .done s
  | .access op addr :: rest => (s.setInputs rest).fetchAccess op addr
  | .reset true :: rest => .done (((s.setInputs rest).applyReset).setResetLine true)
  | .reset false :: rest => .done (((s.setInputs rest).respond none).setResetLine false)
  | .powerLoss :: rest => .done ((s.setInputs rest).losePower)

/-- The host's input that issues an access in the window of this state. -/
def State.inputOf (s : State) (a : Access) : HostInput :=
  .access a.op (s.base + a.off)

/-- The state in which the next step runs this access as its instruction: the access is the next input, and reset is released so that it is serviced (log 1). -/
def State.withAccess (s : State) (a : Access) : State :=
  (s.setInputs (s.inputOf a :: s.inputs)).setResetLine false

end Sys2Proof.Machine
end

