-- ==== Sys2Proof/Machine/Step.lean ====
section
/-! DEFINITION. One step of the machine: the next input of the outside, and the instruction of an access that the block services (00_scope.md R6). -/

namespace Sys2Proof.Machine

/-- One step. -/
def step (s : State) : Host.Outcome State Fault Refusal :=
  match s.fetch with
  | .done t => .next t
  | .run i t => exec i t
  | .stuck f => .fault f
  | .stop r => .refused r

/-- The state with a word of the opcode table placed as the host's next access. A word that no row of the table stands for places nothing. -/
def State.withFetchWord (s : State) (nbits w : Nat) : State :=
  match tableAccess nbits w with
  | some a => s.withAccess a
  | none => s

end Sys2Proof.Machine
end

