-- ==== Sys2Proof/Machine/HostNotation.lean ====
section
/-! DEFINITION. The spec's notation for what a host does: access lines (30_encoding.md R80), pseudo-instructions and their expansions (R81), the wire order (20_memory.md R55), and the host procedures for a chunk's checksum (41_crc.md R132, R133). -/

namespace Sys2Proof.Machine

/-- The register names of R80. -/
inductive Reg where
  | cmd
  | arg
  | status
  | crcState
  | crcResult
  | byteCount
  | type
deriving DecidableEq, Repr

/-- The offset of a register (R21). -/
def Reg.off : Reg → Nat
  | .cmd => 0x00
  | .arg => 0x04
  | .status => 0x08
  | .crcState => 0x0C
  | .crcResult => 0x10
  | .byteCount => 0x14
  | .type => 0x18

/-- One line: `W <reg>, <value>` or `R <reg>` (R80). `W CMD, <MNEMONIC>` is a write of the opcode word. -/
inductive HostLine where
  | write (reg : Reg) (v : Word)
  | read (reg : Reg)
deriving DecidableEq, Repr

/-- The access of a line: the triple (kind, offset, data) of R80. -/
def HostLine.access : HostLine → Access
  | .write reg v => write32 reg.off v
  | .read reg => read32 reg.off

/-- The pseudo-instructions of R81. -/
inductive Pseudo where
  | crcInit
  | crcFeed1 (v : Word)
  | crcFeed2 (v : Word)
  | crcFeed3 (v : Word)
  | crcFeed4 (v : Word)
  | crcCheck (c : Word)
  | typeCheck (t : Word)
  | typeFeed (t : Word)
  | statusClear
  | crcBytes (m : List Byte)
deriving DecidableEq, Repr

/-- A command that reads ARG, after the write of ARG (R81). -/
def withArg (v cmd : Word) : List HostLine :=
  [.write .arg v, .write .cmd cmd]

/-- `crc.bytes` (R81): four bytes at a time, then the rest right-aligned, the first byte most significant. -/
def crcBytesLines : List Byte → List HostLine
  | b0 :: b1 :: b2 :: b3 :: rest => withArg (b0 ++ b1 ++ b2 ++ b3) 0x00000005 ++ crcBytesLines rest
  | [b0, b1, b2] => withArg (0#8 ++ b0 ++ b1 ++ b2) 0x00000004
  | [b0, b1] => withArg (0#16 ++ b0 ++ b1) 0x00000003
  | [b0] => withArg (0#24 ++ b0) 0x00000002
  | [] => []

/-- The expansions of R81. -/
def Pseudo.expand : Pseudo → List HostLine
  | .crcInit => [.write .cmd 0x00000001]
  | .crcFeed1 v => withArg v 0x00000002
  | .crcFeed2 v => withArg v 0x00000003
  | .crcFeed3 v => withArg v 0x00000004
  | .crcFeed4 v => withArg v 0x00000005
  | .crcCheck c => withArg c 0x00000006
  | .typeCheck t => withArg t 0x00000007
  | .typeFeed t => withArg t 0x00000008
  | .statusClear => [.write .cmd 0x00000009]
  | .crcBytes m => crcBytesLines m

/-- The bytes a host emits for a 32-bit value on the wire: big-endian (R55). -/
def wireBytes (v : Word) : List Byte :=
  argBytes v 4

/-- The host's part of a chunk checksum (R132). -/
def chunkChecksum (t : Word) (p : List Byte) : List HostLine :=
  Pseudo.crcInit.expand ++ (Pseudo.typeFeed t).expand ++ (Pseudo.crcBytes p).expand
    ++ [.read .crcResult]

/-- The host's part of a chunk verification (R133). -/
def chunkVerify (t : Word) (p : List Byte) (c : Word) : List HostLine :=
  Pseudo.crcInit.expand ++ (Pseudo.typeFeed t).expand ++ (Pseudo.crcBytes p).expand
    ++ (Pseudo.crcCheck c).expand ++ [.read .status]

/-- The host's inputs that issue these lines at the window of this state. -/
def State.linesToInputs (s : State) (ls : List HostLine) : List HostInput :=
  ls.map fun l => s.inputOf l.access

/-- This state with reset released and these lines, and nothing else, still to come from the host. -/
def State.withLines (s : State) (ls : List HostLine) : State :=
  (s.setInputs (s.linesToInputs ls)).setResetLine false

end Sys2Proof.Machine
end

