-- ==== Sys2Proof/Safety.lean ====
section
/-! DEFINITION. The terms claims use: runs, the invariants of 10_state.md R46, the stream of 41_crc.md R124, the errors a command raises (60_exceptions.md R160), and R51 as a fold over accesses (20_memory.md R60). -/

namespace Sys2Proof.Machine

/-- k steps, as far as they answer a next state. -/
def runSteps : Nat → State → Host.Outcome State Fault Refusal
  | 0, s => .next s
  | k + 1, s =>
    match step s with
    | .next t => runSteps k t
    | .fault r => .fault r
    | .refused r => .refused r

/-- The invariants of R46, (a) to (f); (g) holds of `Status.toWord` in every state. -/
structure Block.Consistent (b : Block) : Prop where
  /-- R46(a). -/
  notBothType : ¬ (b.status.typeValid = true ∧ b.status.typeErr = true)
  /-- R46(b), first half. -/
  validLetters : b.status.typeValid = true → ∀ i < 4, isLetter (byteN b.typeReg 4 i) = true
  /-- R46(b), second half. -/
  invalidZero : b.status.typeValid = false → b.typeReg = 0
  /-- R46(c). -/
  invalidNoProperty : b.status.typeValid = false →
    b.status.critical = false ∧ b.status.publicBit = false ∧ b.status.reservedValid = false ∧
      b.status.safeToCopy = false
  /-- R46(d). -/
  noErrNoIndex : b.status.typeErr = false → b.status.typeErrIdx = 0
  /-- R46(e). -/
  notBothCrc : ¬ (b.status.crcMatch = true ∧ b.status.crcErr = true)
  /-- R46(f), first half. -/
  lastErrCode : b.status.lastErr = 0 ∨ b.status.lastErr = 1 ∨ b.status.lastErr = 2 ∨
    b.status.lastErr = 3
  /-- R46(f), second half. -/
  noCodeNoError : b.status.lastErr = 0 →
    b.status.typeErr = false ∧ b.status.crcErr = false ∧ b.status.cmdErr = false

/-- The stream after an instruction ran in a block whose stream was m (R124): CRC_INIT empties it, a feed and a successful TYPE_FEED append their bytes. -/
def streamAfterInstr (i : Instr) (b : Block) (m : List Byte) : List Byte :=
  match i with
  | .crcInit => []
  | .crcFeed1 => m ++ [b.arg.extractLsb' 0 8]
  | .crcFeed2 => m ++ [b.arg.extractLsb' 8 8, b.arg.extractLsb' 0 8]
  | .crcFeed3 => m ++ [b.arg.extractLsb' 16 8, b.arg.extractLsb' 8 8, b.arg.extractLsb' 0 8]
  | .crcFeed4 =>
    m ++ [b.arg.extractLsb' 24 8, b.arg.extractLsb' 16 8, b.arg.extractLsb' 8 8,
      b.arg.extractLsb' 0 8]
  | .typeFeed =>
    match classify b.arg with
    | .valid =>
      m ++ [b.arg.extractLsb' 24 8, b.arg.extractLsb' 16 8, b.arg.extractLsb' 8 8,
        b.arg.extractLsb' 0 8]
    | .invalid _ => m
  | .nop | .crcCheck | .typeCheck | .clearStatus | .illegal _ => m
  | .rCmd | .rArg | .rStatus | .rCrcState | .rCrcResult | .rByteCount | .rType | .rReserved => m
  | .wArg _ | .wStatus _ | .wCrcState _ | .wCrcResult _ | .wByteCount _ | .wType _
  | .wReserved _ | .busError _ => m

/-- The stream after the next step of s, where m is the stream before it (R124): reset empties it. -/
def nextStream (s : State) (m : List Byte) : List Byte :=
  match s.inputs with
  | .reset true :: _ => []
  | _ =>
    match s.fetch with
    | .run i t => streamAfterInstr i t.block m
    | .done _ => m
    | .stuck _ => m
    | .stop _ => m

/-- The stream after k steps (R124). -/
def streamAfter : Nat → State → List Byte → List Byte
  | 0, _, m => m
  | k + 1, s, m =>
    match step s with
    | .next t => streamAfter k t (nextStream s m)
    | .fault _ => m
    | .refused _ => m

/-- What R124 says of a block whose stream is m. -/
def Block.HoldsStream (b : Block) (m : List Byte) : Prop :=
  b.crcState = feedAll 0xFFFFFFFF m ∧ b.crcResult = crc32 m ∧
    b.byteCount = BitVec.ofNat 32 m.length

/-- The code of the error an instruction raises in a block, none where it raises none (R160). -/
def raisedCode (i : Instr) (b : Block) : Option (BitVec 4) :=
  match i with
  | .typeCheck | .typeFeed =>
    match classify b.arg with
    | .valid => none
    | .invalid _ => some 1
  | .crcCheck => if b.crcState ^^^ 0xFFFFFFFF = b.arg then none else some 2
  | .illegal _ => some 3
  | .nop | .crcInit | .crcFeed1 | .crcFeed2 | .crcFeed3 | .crcFeed4 | .clearStatus => none
  | .rCmd | .rArg | .rStatus | .rCrcState | .rCrcResult | .rByteCount | .rType | .rReserved => none
  | .wArg _ | .wStatus _ | .wCrcState _ | .wCrcResult _ | .wByteCount _ | .wType _
  | .wReserved _ | .busError _ => none

/-- `BusRead(off)` of R51 as a function of the block. -/
def busRead (b : Block) (off : Nat) : Word :=
  if off = 0x04 then b.arg
  else if off = 0x08 then b.status.toWord
  else if off = 0x0C then b.crcState
  else if off = 0x10 then b.crcState ^^^ 0xFFFFFFFF
  else if off = 0x14 then b.byteCount
  else if off = 0x18 then b.typeReg
  else 0

/-- `BusWrite(off, v)` of R51 as a function of the block: at CMD, the block that the command v leaves. -/
def busWrite (b : Block) (off : Nat) (v : Word) : Block :=
  if off = 0x00 then
    match exec (decodeCmd v) (State.reset.setBlock b) with
    | .next t => t.block
    | .fault _ => b
    | .refused _ => b
  else if off = 0x04 then { b with arg := v }
  else b

/-- One access of the window as a function from (state, access) to (state, response) (R6, R51, R52). -/
def service (b : Block) (a : Access) : Block × Response :=
  match a.op with
  | .read w =>
    if w = 32 ∧ a.off % 4 = 0 then (b, .data (busRead b a.off)) else (b, .busError)
  | .write w v =>
    if w = 32 ∧ a.off % 4 = 0 then (busWrite b a.off (v.setWidth 32), .written) else (b, .busError)

/-- The fold of R60: the block after a history of accesses, and the response to each, in order. -/
def serviceAll : Block → List Access → Block × List Response
  | b, [] => (b, [])
  | b, a :: rest =>
    ((serviceAll (service b a).1 rest).1, (service b a).2 :: (serviceAll (service b a).1 rest).2)

/-- The responses the host observes along k steps, in order (R7). -/
def responsesOf : Nat → State → List (Option Response)
  | 0, _ => []
  | k + 1, s =>
    match step s with
    | .next t => t.response :: responsesOf k t
    | .fault _ => []
    | .refused _ => []

end Sys2Proof.Machine
end

