-- ==== Sys2Proof/Certificates/Slice0/Obligations.lean ====
section
/-! DEFINITION. The statements for the provers, from the numbered rules of spec/. A rule of the form "exec i s = next t" says at once that the instruction completes in every state, its result, and its frame: the record update names every field that changes. -/

open Sys2Proof Sys2Proof.Machine

/-! ### Encoding -/

/-- Decoding the access of a well-formed instruction gives it back (R70 to R77, R51, R52), with every operand. -/
def Obligations.DecodeOfEncode : Prop :=
  ∀ i : Instr, i.wf = true → decode (encode i) = .ok i

/-- Every access has one meaning: what it decodes to is well formed and encodes to that access, and every access of the window decodes to something (R76: decoding is total). -/
def Obligations.EncodeOfDecode : Prop :=
  (∀ (a : Access) (i : Instr), decode a = .ok i → encode i = a ∧ i.wf = true) ∧
    ∀ a : Access, (∃ i, decode a = .ok i) ↔ a.off < 32

/-- R76: the test on RSV comes first, then OPC selects one of ten commands, and every other word is illegal. -/
def Obligations.ExecuteSelectsByOpcode : Prop :=
  ∀ w : Word, decode ⟨.write 32 w, 0x00⟩ = .ok
    (if w.extractLsb' 8 24 ≠ 0 then .illegal w
     else if w.extractLsb' 0 8 = 0x00 then .nop
     else if w.extractLsb' 0 8 = 0x01 then .crcInit
     else if w.extractLsb' 0 8 = 0x02 then .crcFeed1
     else if w.extractLsb' 0 8 = 0x03 then .crcFeed2
     else if w.extractLsb' 0 8 = 0x04 then .crcFeed3
     else if w.extractLsb' 0 8 = 0x05 then .crcFeed4
     else if w.extractLsb' 0 8 = 0x06 then .crcCheck
     else if w.extractLsb' 0 8 = 0x07 then .typeCheck
     else if w.extractLsb' 0 8 = 0x08 then .typeFeed
     else if w.extractLsb' 0 8 = 0x09 then .clearStatus
     else .illegal w)

/-- R77: a written word is illegal exactly when RSV is not zero or OPC lies in 0x0A..0xFF; there are 2^32 - 10 such words; writing one raises the CMD error, and nothing else of the block changes. -/
def Obligations.IllegalWordsAreTheComplement : Prop :=
  (∀ w : Word, (∃ v, decode ⟨.write 32 w, 0x00⟩ = .ok (.illegal v)) ↔
      (w.extractLsb' 8 24 ≠ 0 ∨ 0x0A ≤ (w.extractLsb' 0 8).toNat)) ∧
    {w : Word | ∃ v, decode ⟨.write 32 w, 0x00⟩ = .ok (.illegal v)}.ncard = 2 ^ 32 - 10 ∧
    ∀ (w : Word) (s : State), (w.extractLsb' 8 24 ≠ 0 ∨ 0x0A ≤ (w.extractLsb' 0 8).toNat) →
      decode ⟨.write 32 w, 0x00⟩ = .ok (.illegal w) ∧
        exec (.illegal w) s = .next { s with
          block := { s.block with status := { s.block.status with cmdErr := true, lastErr := 3 } }
          response := some .written }

/-- Words written out from R75 and the map of R21 decode to the instruction they stand for. -/
def Obligations.SampleWordsDecode : Prop :=
  decode ⟨.write 32 0b00000000000000000000000000000000#32, 0x00⟩ = .ok .nop ∧
    decode ⟨.write 32 0b00000000000000000000000000000101#32, 0x00⟩ = .ok .crcFeed4 ∧
    decode ⟨.write 32 0b00000000000000000000000000001000#32, 0x00⟩ = .ok .typeFeed ∧
    decode ⟨.write 32 0x00000105#32, 0x00⟩ = .ok (.illegal 0x00000105) ∧
    decode ⟨.read 32, 0b10100⟩ = .ok .rByteCount ∧
    decode ⟨.write 32 0x52755374#32, 0b00100⟩ = .ok (.wArg 0x52755374) ∧
    decode ⟨.write 16 0x0001#16, 0x00⟩ = .ok (.busError ⟨.write 16 0x0001#16, 0x00⟩)

/-- R74, its formula, its order and its example. -/
def Obligations.ByteSelection : Prop :=
  (∀ (v : Word) (n i : Nat), byteN v n i = v.extractLsb' (8 * (n - 1 - i)) 8) ∧
    (∀ v : Word, byteN v 4 0 = v.extractLsb' 24 8 ∧ byteN v 4 3 = v.extractLsb' 0 8) ∧
    byteN 0x52755374 4 0 = 0x52 ∧ byteN 0x52755374 4 1 = 0x75 ∧ byteN 0x52755374 4 2 = 0x53 ∧
    byteN 0x52755374 4 3 = 0x74 ∧ byteN 0x52755374 2 0 = 0x53 ∧ byteN 0x52755374 2 1 = 0x74

/-- R55, R56: the ARG value equal to a big-endian u32 read from four wire bytes holds those bytes in wire order, feeding it as four bytes is feeding them one by one in that order, and the host emits them in that order again. -/
def Obligations.BigEndianWordFeedsInWireOrder : Prop :=
  ∀ (b0 b1 b2 b3 : Byte) (v : Word),
    v.toNat = ((b0.toNat * 256 + b1.toNat) * 256 + b2.toNat) * 256 + b3.toNat →
      argBytes v 4 = [b0, b1, b2, b3] ∧ wireBytes v = [b0, b1, b2, b3] ∧
      ∀ s : State, s.block.arg = v → ∃ t, exec .crcFeed4 s = .next t ∧
        t.block.crcState = feed (feed (feed (feed s.block.crcState b0) b1) b2) b3

/-! ### The step and the bus -/

/-- A step whose next input is an access of the window runs the instruction it decodes to, with that input taken and nothing else changed. -/
def Obligations.StepRunsDecodedInstruction : Prop :=
  ∀ (s : State) (op : BusOp) (off : Nat) (rest : List HostInput) (i : Instr),
    s.resetLine = false → s.inputs = .access op (s.base + off) :: rest → decode ⟨op, off⟩ = .ok i →
      step s = exec i { s with inputs := rest }

/-- R51: a 32-bit aligned access is serviced; a read returns the register at its offset, a write delivers its whole value to it. -/
def Obligations.AlignedAccessIsServiced : Prop :=
  (∀ (s : State) (rest : List HostInput) (off : Nat) (v : Word), s.resetLine = false →
    (off, v) ∈ [(0x00, 0x00000000), (0x04, s.block.arg), (0x08, s.block.status.toWord),
      (0x0C, s.block.crcState), (0x10, s.block.crcState ^^^ 0xFFFFFFFF),
      (0x14, s.block.byteCount), (0x18, s.block.typeReg), (0x1C, 0x00000000)] →
    s.inputs = .access (.read 32) (s.base + off) :: rest →
      step s = .next { s with inputs := rest, response := some (.data v) }) ∧
  (∀ (s : State) (rest : List HostInput) (v : Word), s.resetLine = false →
    s.inputs = .access (.write 32 v) (s.base + 0x00) :: rest →
      step s = exec (decodeCmd v) { s with inputs := rest }) ∧
  (∀ (s : State) (rest : List HostInput) (v : Word), s.resetLine = false →
    s.inputs = .access (.write 32 v) (s.base + 0x04) :: rest →
      step s = .next { s with
        inputs := rest, block := { s.block with arg := v }, response := some .written }) ∧
  (∀ (s : State) (rest : List HostInput) (off : Nat) (v : Word), s.resetLine = false →
    off ∈ [0x08, 0x0C, 0x10, 0x14, 0x18, 0x1C] →
    s.inputs = .access (.write 32 v) (s.base + off) :: rest →
      step s = .next { s with inputs := rest, response := some .written })

/-- R52: an access of any other width, or at an offset that is no multiple of 4, gets a bus error and changes no register. -/
def Obligations.MalformedAccessGetsBusError : Prop :=
  (∀ (a : Access) (s : State), exec (.busError a) s = .next { s with response := some .busError }) ∧
  ∀ (s : State) (rest : List HostInput) (op : BusOp) (off : Nat), s.resetLine = false →
    off < 32 → (op.width ≠ 32 ∨ off % 4 ≠ 0) → s.inputs = .access op (s.base + off) :: rest →
      step s = .next { s with inputs := rest, response := some .busError }

/-- R164, last sentence: an access outside the window does not reach the block; even while reset is applied it changes no register and is answered by nothing of the block. That the input is taken and the response cleared is the model's choice (log 4, log 9). -/
def Obligations.AccessOutsideWindowDoesNotReachBlock : Prop :=
  ∀ (s : State) (rest : List HostInput) (op : BusOp) (addr : Nat),
    (addr < s.base ∨ s.base + 32 ≤ addr) → s.inputs = .access op addr :: rest →
      step s = .next { s with inputs := rest, response := none }

/-- R21, R22 to R27, R40, R41: what a read of each register answers; no register changes. -/
def Obligations.ReadsAnswerTheRegister : Prop :=
  ∀ s : State,
    exec .rCmd s = .next { s with response := some (.data 0x00000000) } ∧
    exec .rArg s = .next { s with response := some (.data s.block.arg) } ∧
    exec .rStatus s = .next { s with response := some (.data s.block.status.toWord) } ∧
    exec .rCrcState s = .next { s with response := some (.data s.block.crcState) } ∧
    exec .rCrcResult s =
      .next { s with response := some (.data (s.block.crcState ^^^ 0xFFFFFFFF)) } ∧
    exec .rByteCount s = .next { s with response := some (.data s.block.byteCount) } ∧
    exec .rType s = .next { s with response := some (.data s.block.typeReg) } ∧
    exec .rReserved s = .next { s with response := some (.data 0x00000000) }

/-- R53: writes to read-only offsets and to 0x1C have no effect and no error response; CMD reads as 0. -/
def Obligations.ReadOnlyWritesAreIgnored : Prop :=
  ∀ (s : State) (v : Word),
    exec (.wStatus v) s = .next { s with response := some .written } ∧
    exec (.wCrcState v) s = .next { s with response := some .written } ∧
    exec (.wCrcResult v) s = .next { s with response := some .written } ∧
    exec (.wByteCount v) s = .next { s with response := some .written } ∧
    exec (.wType v) s = .next { s with response := some .written } ∧
    exec (.wReserved v) s = .next { s with response := some .written } ∧
    exec .rCmd s = .next { s with response := some (.data 0x00000000) }

/-- R22: a write of ARG stores its value, a read returns it, and no other instruction writes ARG; it resets to 0. -/
def Obligations.ArgIsWrittenByTheHostOnly : Prop :=
  decode ⟨.read 32, 0x04⟩ = .ok .rArg ∧
  (∀ v : Word, decode ⟨.write 32 v, 0x04⟩ = .ok (.wArg v)) ∧
  (∀ (s : State) (v : Word), exec (.wArg v) s =
    .next { s with block := { s.block with arg := v }, response := some .written }) ∧
  (∀ s : State, exec .rArg s = .next { s with response := some (.data s.block.arg) }) ∧
  (∀ (i : Instr) (s t : State), (∀ v, i ≠ .wArg v) → exec i s = .next t →
    t.block.arg = s.block.arg) ∧
  State.reset.block.arg = 0x00000000

/-- R54: reads have no side effect; only a write to CMD changes anything but ARG; which instructions are idempotent, and which are not. -/
def Obligations.SideEffectsAndIdempotency : Prop :=
  (∀ i ∈ [Instr.rCmd, .rArg, .rStatus, .rCrcState, .rCrcResult, .rByteCount, .rType, .rReserved],
    ∀ s, ∃ t, exec i s = .next t ∧ t.block = s.block ∧ exec i t = .next t) ∧
  (∀ (v : Word) (s : State), ∃ t, exec (.wArg v) s = .next t ∧ exec (.wArg v) t = .next t) ∧
  (∀ i ∈ [Instr.nop, .crcInit, .crcCheck, .typeCheck, .clearStatus],
    ∀ s, ∃ t, exec i s = .next t ∧ exec i t = .next t) ∧
  (∀ i ∈ [Instr.crcFeed1, .crcFeed2, .crcFeed3, .crcFeed4],
    ∀ s, ∃ t u, exec i s = .next t ∧ exec i t = .next u ∧ u.block ≠ t.block) ∧
  (∀ s : State, classify s.block.arg = .valid →
    ∃ t u, exec .typeFeed s = .next t ∧ exec .typeFeed t = .next u ∧ u.block ≠ t.block) ∧
  (∀ (i : Instr) (s t : State), (∀ w, encode i ≠ ⟨.write 32 w, 0x00⟩) → exec i s = .next t →
    t.block = { s.block with arg := t.block.arg })

/-- R60: accesses take effect one at a time in the order received; after a history of accesses the block is the fold of R51 over it, and each access got the response of that fold. -/
def Obligations.HistoryIsTheFoldOfAccesses : Prop :=
  ∀ (s : State) (as : List Access), (∀ a ∈ as, a.off < 32) → s.resetLine = false →
    s.inputs = as.map s.inputOf →
      (∃ t, runSteps as.length s = .next t ∧ t.block = (serviceAll s.block as).1 ∧ t.inputs = []) ∧
      responsesOf as.length s = (serviceAll s.block as).2.map some

/-- R165: no error traps, aborts or stops the block: every instruction completes in every state, and no step faults. -/
def Obligations.EveryInstructionCompletes : Prop :=
  (∀ (i : Instr) (s : State), ∃ t, exec i s = .next t ∧ t.inputs = s.inputs ∧
    t.resetLine = s.resetLine ∧ t.baseIndex = s.baseIndex ∧ t.powerUps = s.powerUps ∧
    t.response.isSome = true) ∧
  ∀ (s : State) (f : Fault), step s ≠ .fault f

/-- R45: the block has no hidden state: what an instruction does to the block and answers depends on the block's five registers alone. -/
def Obligations.NoHiddenState : Prop :=
  ∀ (i : Instr) (s s' t t' : State), s.block = s'.block → exec i s = .next t →
    exec i s' = .next t' → t.block = t'.block ∧ t.response = t'.response

/-- R21 and R27, the columns "Written by": which instructions may change each register and each field of STATUS. -/
def Obligations.RegistersChangeOnlyByTheirWriters : Prop :=
  ∀ (i : Instr) (s t : State), exec i s = .next t →
    (t.block.arg ≠ s.block.arg → ∃ v, i = .wArg v) ∧
    (t.block.crcState ≠ s.block.crcState →
      i ∈ [.crcInit, .crcFeed1, .crcFeed2, .crcFeed3, .crcFeed4, .typeFeed]) ∧
    (t.block.byteCount ≠ s.block.byteCount →
      i ∈ [.crcInit, .crcFeed1, .crcFeed2, .crcFeed3, .crcFeed4, .typeFeed]) ∧
    (t.block.typeReg ≠ s.block.typeReg → i ∈ [.typeCheck, .typeFeed]) ∧
    (t.block.status.typeValid ≠ s.block.status.typeValid → i ∈ [.typeCheck, .typeFeed]) ∧
    (t.block.status.typeErr ≠ s.block.status.typeErr →
      i ∈ [.typeCheck, .typeFeed, .clearStatus]) ∧
    (t.block.status.typeErrIdx ≠ s.block.status.typeErrIdx →
      i ∈ [.typeCheck, .typeFeed, .clearStatus]) ∧
    (t.block.status.critical ≠ s.block.status.critical → i ∈ [.typeCheck, .typeFeed]) ∧
    (t.block.status.publicBit ≠ s.block.status.publicBit → i ∈ [.typeCheck, .typeFeed]) ∧
    (t.block.status.reservedValid ≠ s.block.status.reservedValid → i ∈ [.typeCheck, .typeFeed]) ∧
    (t.block.status.safeToCopy ≠ s.block.status.safeToCopy → i ∈ [.typeCheck, .typeFeed]) ∧
    (t.block.status.crcMatch ≠ s.block.status.crcMatch → i ∈ [.crcCheck, .crcInit]) ∧
    (t.block.status.crcErr ≠ s.block.status.crcErr → i ∈ [.crcCheck, .crcInit, .clearStatus]) ∧
    (t.block.status.cmdErr ≠ s.block.status.cmdErr → i = .clearStatus ∨ ∃ w, i = .illegal w) ∧
    (t.block.status.lastErr ≠ s.block.status.lastErr →
      i ∈ [.typeCheck, .typeFeed, .crcCheck, .clearStatus] ∨ ∃ w, i = .illegal w)

/-! ### STATUS -/

/-- R27, the layout, and R39: the reserved bits read as 0 in every state. -/
def Obligations.StatusLayout : Prop :=
  ∀ st : Status,
    st.toWord.getLsbD 0 = st.typeValid ∧ st.toWord.getLsbD 1 = st.typeErr ∧
    st.toWord.extractLsb' 2 2 = st.typeErrIdx ∧ st.toWord.getLsbD 4 = st.critical ∧
    st.toWord.getLsbD 5 = st.publicBit ∧ st.toWord.getLsbD 6 = st.reservedValid ∧
    st.toWord.getLsbD 7 = st.safeToCopy ∧ st.toWord.getLsbD 8 = st.crcMatch ∧
    st.toWord.getLsbD 9 = st.crcErr ∧ st.toWord.getLsbD 10 = st.cmdErr ∧
    st.toWord.extractLsb' 11 5 = 0 ∧ st.toWord.extractLsb' 16 4 = st.lastErr ∧
    st.toWord.extractLsb' 20 12 = 0

/-- R37: CMD_ERR is set by every illegal command word and stays 1 until a CLEAR_STATUS or reset; no other command changes it. R37 names no loss of power: the step clause excepts it because R176 guarantees no state after it, and that it is an input is the model's reading (log 7, DEDUCED). -/
def Obligations.CmdErrIsSticky : Prop :=
  (∀ (w : Word) (s : State), ∃ t, exec (.illegal w) s = .next t ∧
    t.block.status.cmdErr = true) ∧
  (∀ (i : Instr) (s t : State), i ≠ .clearStatus → (∀ w, i ≠ .illegal w) → exec i s = .next t →
    t.block.status.cmdErr = s.block.status.cmdErr) ∧
  (∀ s t : State, s.block.status.cmdErr = true → step s = .next t →
    t.block.status.cmdErr = true ∨
      s.inputs.head? = some (.access (.write 32 0x00000009#32) (s.base + 0x00)) ∨
      s.inputs.head? = some (.reset true) ∨ s.inputs.head? = some .powerLoss) ∧
  State.reset.block.status.cmdErr = false

/-- R38, R160: LAST_ERR after an instruction is 0 for CLEAR_STATUS, the code of the error it raises, or else what it was. -/
def Obligations.LastErrHoldsTheLatestCode : Prop :=
  ∀ (i : Instr) (s : State), ∃ t, exec i s = .next t ∧
    t.block.status.lastErr =
      if i = .clearStatus then 0 else (raisedCode i s.block).getD s.block.status.lastErr

/-! ### Type codes -/

/-- R100: the letters, and that there are 52. -/
def Obligations.LetterRanges : Prop :=
  (∀ b : Byte, isLetter b = true ↔
    ((0x41 ≤ b.toNat ∧ b.toNat ≤ 0x5A) ∨ (0x61 ≤ b.toNat ∧ b.toNat ≤ 0x7A))) ∧
  ((List.range 256).filter fun n => isLetter (BitVec.ofNat 8 n)).length = 52

/-- R101: Classify reports the least index whose byte is no letter. -/
def Obligations.ClassifyFindsFirstNonLetter : Prop :=
  ∀ v : Word,
    (classify v = .valid ↔ ∀ i < 4, isLetter (byteN v 4 i) = true) ∧
    ∀ k : BitVec 2, classify v = .invalid k ↔
      (isLetter (byteN v 4 k.toNat) = false ∧ ∀ j < k.toNat, isLetter (byteN v 4 j) = true)

/-- R102: each property is a test of bit 5 of one byte; the bit of the word each tests. -/
def Obligations.PropertyBits : Prop :=
  (∀ v : Word, critical v = ((byteN v 4 0).getLsbD 5 == false) ∧
    publicBit v = ((byteN v 4 1).getLsbD 5 == false) ∧
    reservedValid v = ((byteN v 4 2).getLsbD 5 == false) ∧
    safeToCopy v = ((byteN v 4 3).getLsbD 5 == true)) ∧
  ∀ v : Word, critical v = !v.getLsbD 29 ∧ publicBit v = !v.getLsbD 21 ∧
    reservedValid v = !v.getLsbD 13 ∧ safeToCopy v = v.getLsbD 5

/-- R103: for a letter bit 5 is 0 exactly for uppercase, so for a valid code the bit test and the uppercase test of byte 2 agree; TYPE_CHECK shows the result only for valid codes. -/
def Obligations.ReservedValidIsUppercase : Prop :=
  (∀ b : Byte, isLetter b = true → (b.getLsbD 5 = false ↔ (0x41 ≤ b.toNat ∧ b.toNat ≤ 0x5A))) ∧
  (∀ v : Word, classify v = .valid →
    (reservedValid v = true ↔ (0x41 ≤ (byteN v 4 2).toNat ∧ (byteN v 4 2).toNat ≤ 0x5A))) ∧
  (∀ s : State, ∃ t, exec .typeCheck s = .next t ∧
    (t.block.status.reservedValid = true ↔ (classify s.block.arg = .valid ∧
      0x41 ≤ (byteN s.block.arg 4 2).toNat ∧ (byteN s.block.arg 4 2).toNat ≤ 0x5A)))

/-- R104: exactly 52^4 words are accepted, those whose four bytes are letters; the other 4,287,655,680 are rejected, among them every word with a digit byte, a zero byte or a byte with bit 7 set. -/
def Obligations.ValidTypeCodesCount : Prop :=
  {v : Word | classify v = .valid}.ncard = 52 ^ 4 ∧
  {v : Word | classify v ≠ .valid}.ncard = 4287655680 ∧
  (∀ v : Word, classify v = .valid ↔ ∀ i < 4, isLetter (byteN v 4 i) = true) ∧
  (∀ (v : Word) (i : Nat), i < 4 →
    ((0x30 ≤ (byteN v 4 i).toNat ∧ (byteN v 4 i).toNat ≤ 0x39) ∨ byteN v 4 i = 0 ∨
      (byteN v 4 i).getLsbD 7 = true) → classify v ≠ .valid)

/-- R105 and R161: TYPE_CHECK. -/
def Obligations.TypeCheckValidatesArg : Prop :=
  decode ⟨.write 32 0x00000007#32, 0x00⟩ = .ok .typeCheck ∧
  (∀ s : State, classify s.block.arg = .valid → exec .typeCheck s = .next { s with
    block := { s.block with
      typeReg := s.block.arg
      status := { s.block.status with
        typeValid := true, typeErr := false, typeErrIdx := 0
        critical := critical s.block.arg, publicBit := publicBit s.block.arg
        reservedValid := reservedValid s.block.arg, safeToCopy := safeToCopy s.block.arg } }
    response := some .written }) ∧
  (∀ (s : State) (k : BitVec 2), classify s.block.arg = .invalid k → exec .typeCheck s = .next { s with
    block := { s.block with
      typeReg := 0x00000000
      status := { s.block.status with
        typeValid := false, typeErr := true, typeErrIdx := k
        critical := false, publicBit := false, reservedValid := false, safeToCopy := false
        lastErr := 1 } }
    response := some .written }) ∧
  (∀ s : State, s.block.arg = 0x52755374 → ∃ t, exec .typeCheck s = .next t ∧
    t.block.typeReg = 0x52755374 ∧ t.block.status.toWord.extractLsb' 0 8 = 0xD1) ∧
  (∀ s : State, s.block.arg = 0x00000000 → ∃ t, exec .typeCheck s = .next t ∧
    t.block.status.typeErr = true ∧ t.block.status.typeErrIdx = 0) ∧
  (∀ s : State, s.block.arg = 0x5280FF00 → ∃ t, exec .typeCheck s = .next t ∧
    t.block.status.typeErr = true ∧ t.block.status.typeErrIdx = 1) ∧
  (classify 0x415A617A = .valid ∧ classify 0x40755374 = .invalid 0 ∧ classify 0x525B5374 = .invalid 1 ∧
    classify 0x52756074 = .invalid 2 ∧ classify 0x5275537B = .invalid 3 ∧
    classify 0xD2755374 = .invalid 0 ∧ classify 0x80755374 = .invalid 0)

/-- R106: TYPE_FEED is a TYPE_CHECK and, only on success, the feed of the four bytes of ARG (a CRC_FEED4); on failure CRC_STATE and BYTE_COUNT are unchanged. -/
def Obligations.TypeFeedFeedsOnlyValidTypes : Prop :=
  decode ⟨.write 32 0x00000008#32, 0x00⟩ = .ok .typeFeed ∧
  (∀ s : State, classify s.block.arg = .valid → exec .typeFeed s = .next { s with
    block := { s.block with
      typeReg := s.block.arg
      crcState :=
        feed (feed (feed (feed s.block.crcState (s.block.arg.extractLsb' 24 8))
          (s.block.arg.extractLsb' 16 8)) (s.block.arg.extractLsb' 8 8)) (s.block.arg.extractLsb' 0 8)
      byteCount := s.block.byteCount + 4
      status := { s.block.status with
        typeValid := true, typeErr := false, typeErrIdx := 0
        critical := critical s.block.arg, publicBit := publicBit s.block.arg
        reservedValid := reservedValid s.block.arg, safeToCopy := safeToCopy s.block.arg } }
    response := some .written }) ∧
  (∀ (s : State) (k : BitVec 2), classify s.block.arg = .invalid k → exec .typeFeed s = .next { s with
    block := { s.block with
      typeReg := 0x00000000
      status := { s.block.status with
        typeValid := false, typeErr := true, typeErrIdx := k
        critical := false, publicBit := false, reservedValid := false, safeToCopy := false
        lastErr := 1 } }
    response := some .written }) ∧
  (∀ s : State, classify s.block.arg = .valid → ∃ t u, exec .typeCheck s = .next t ∧
    exec .crcFeed4 t = .next u ∧ exec .typeFeed s = .next u) ∧
  (∀ s : State, s.block.byteCount = 0xFFFFFFFC → classify s.block.arg = .valid →
    ∃ t, exec .typeFeed s = .next t ∧ t.block.byteCount = 0x00000000) ∧
  (∀ s : State, s.block = { Block.reset with arg := 0x52755374 } → ∃ t, exec .typeFeed s = .next t ∧
    t.block.status.toWord = 0x000000D1 ∧ t.block.typeReg = 0x52755374 ∧ t.block.byteCount = 4 ∧
    t.block.crcState = 0x2B7BF6C3 ∧ t.block.crcResult = 0xD484093C)

/-- R107: after a passed check TYPE reads back as the checked word exactly. -/
def Obligations.TypeReadsBackUnchanged : Prop :=
  ∀ i ∈ [Instr.typeCheck, .typeFeed], ∀ s : State, classify s.block.arg = .valid →
    ∃ t u, exec i s = .next t ∧ exec .rType t = .next u ∧ u.response = some (.data s.block.arg)

/-! ### The CRC engine -/

/-- R121: the one-byte update, written out as eight shifts, for every state and byte. -/
def Obligations.FeedIsEightShifts : Prop :=
  ∀ (s : Word) (b : Byte), feed s b =
    (List.range 8).foldl
      (fun (x : Word) _ => if x.getLsbD 0 = true then (x >>> 1) ^^^ 0xEDB88320 else x >>> 1)
      (s ^^^ b.setWidth 32)

/-- R122: the table form equals the bit loop for every s and b; the selected entries. -/
def Obligations.TableFormEqualsBitLoop : Prop :=
  (∀ i : Byte, crcTableEntry i = feed (i.setWidth 32) 0) ∧
  (∀ (s : Word) (b : Byte), feed s b =
    (s >>> 8) ^^^ crcTableEntry (((s ^^^ b.setWidth 32) &&& 0xFF).setWidth 8)) ∧
  crcTableEntry 0x00 = 0x00000000 ∧ crcTableEntry 0x01 = 0x77073096 ∧
  crcTableEntry 0x02 = 0xEE0E612C ∧ crcTableEntry 0x03 = 0x990951BA ∧
  crcTableEntry 0x04 = 0x076DC419 ∧ crcTableEntry 0x08 = 0x0EDB8832 ∧
  crcTableEntry 0x10 = 0x1DB71064 ∧ crcTableEntry 0x20 = 0x3B6E20C8 ∧
  crcTableEntry 0x40 = 0x76DC4190 ∧ crcTableEntry 0x80 = 0xEDB88320 ∧
  crcTableEntry 0xFF = 0x2D02EF8D

/-- R123, R120: CRC32 from the initial value and the final XOR, the empty sequence, the catalogue check value, and the source's own value for "RuSt" with its 42-byte payload (95_test_vectors.md L1-5). -/
def Obligations.CrcCheckValues : Prop :=
  (∀ m : List Byte, crc32 m = feedAll 0xFFFFFFFF m ^^^ 0xFFFFFFFF) ∧
  (∀ s : Word, feedAll s [] = s) ∧
  (∀ (s : Word) (b : Byte) (rest : List Byte), feedAll s (b :: rest) = feedAll (feed s b) rest) ∧
  crc32 [] = 0x00000000 ∧
  crc32 [0x31, 0x32, 0x33, 0x34, 0x35, 0x36, 0x37, 0x38, 0x39] = 0xCBF43926 ∧
  crc32 [0x52, 0x75, 0x53, 0x74, 0x54, 0x68, 0x69, 0x73, 0x20, 0x69, 0x73, 0x20, 0x77, 0x68, 0x65,
    0x72, 0x65, 0x20, 0x79, 0x6F, 0x75, 0x72, 0x20, 0x73, 0x65, 0x63, 0x72, 0x65, 0x74, 0x20, 0x6D,
    0x65, 0x73, 0x73, 0x61, 0x67, 0x65, 0x20, 0x77, 0x69, 0x6C, 0x6C, 0x20, 0x62, 0x65, 0x21]
      = 2882656334

/-- R120, the residue: feeding any message and then its CRC32, least significant byte first, leaves 0xDEBB20E3. -/
def Obligations.ResidueOfEveryMessage : Prop :=
  ∀ m : List Byte,
    feedAll 0xFFFFFFFF (m ++ [(crc32 m).extractLsb' 0 8, (crc32 m).extractLsb' 8 8,
      (crc32 m).extractLsb' 16 8, (crc32 m).extractLsb' 24 8]) = 0xDEBB20E3

/-- R125, the law: feeding a concatenation is feeding the one and then the other. -/
def Obligations.ConcatenationLaw : Prop :=
  ∀ (s : Word) (a b : List Byte), feedAll s (a ++ b) = feedAll (feedAll s a) b

/-- R24: every value of CRC_STATE is reachable by the host from reset. -/
def Obligations.EveryCrcStateIsReachable : Prop :=
  ∀ c : Word, ∃ (ls : List HostLine) (t : State),
    runSteps ls.length (State.reset.withLines ls) = .next t ∧ t.block.crcState = c

/-- R126: CRC_INIT, idempotent, after which CRC_RESULT reads 0. -/
def Obligations.CrcInitStartsStream : Prop :=
  decode ⟨.write 32 0x00000001#32, 0x00⟩ = .ok .crcInit ∧
  (∀ s : State, exec .crcInit s = .next { s with
    block := { s.block with
      crcState := 0xFFFFFFFF, byteCount := 0x00000000
      status := { s.block.status with crcMatch := false, crcErr := false } }
    response := some .written }) ∧
  (∀ s : State, ∃ t u, exec .crcInit s = .next t ∧ exec .crcInit t = .next t ∧
    exec .rCrcResult t = .next u ∧ u.response = some (.data 0x00000000))

/-- R127: CRC_FEED1. -/
def Obligations.CrcFeed1AppendsOneByte : Prop :=
  decode ⟨.write 32 0x00000002#32, 0x00⟩ = .ok .crcFeed1 ∧
  (∀ s : State, exec .crcFeed1 s = .next { s with
    block := { s.block with
      crcState := feed s.block.crcState (s.block.arg.extractLsb' 0 8)
      byteCount := s.block.byteCount + 1 }
    response := some .written }) ∧
  (∀ s : State, s.block.byteCount = 0xFFFFFFFF → ∃ t, exec .crcFeed1 s = .next t ∧
    t.block.byteCount = 0x00000000) ∧
  (∀ s : State, s.block.arg = 0xFFFFFF00 → ∃ t, exec .crcFeed1 s = .next t ∧
    t.block.crcState = feed s.block.crcState 0x00) ∧
  (∀ s : State, s.block.crcState = 0xFFFFFFFF → s.block.byteCount = 0 → s.block.arg = 0x00000061 →
    ∃ t, exec .crcFeed1 s = .next t ∧ t.block.crcState = 0x174841BC ∧
      t.block.crcResult = 0xE8B7BE43 ∧ t.block.byteCount = 1)

/-- R128: CRC_FEED2. -/
def Obligations.CrcFeed2AppendsTwoBytes : Prop :=
  decode ⟨.write 32 0x00000003#32, 0x00⟩ = .ok .crcFeed2 ∧
  (∀ s : State, exec .crcFeed2 s = .next { s with
    block := { s.block with
      crcState :=
        feed (feed s.block.crcState (s.block.arg.extractLsb' 8 8)) (s.block.arg.extractLsb' 0 8)
      byteCount := s.block.byteCount + 2 }
    response := some .written }) ∧
  (∀ s : State, s.block.byteCount = 0xFFFFFFFE → ∃ t, exec .crcFeed2 s = .next t ∧
    t.block.byteCount = 0x00000000) ∧
  (∀ s : State, s.block.crcState = 0xFFFFFFFF → s.block.byteCount = 0 → s.block.arg = 0x00000102 →
    ∃ t, exec .crcFeed2 s = .next t ∧ t.block.crcResult = 0xB6CC4292 ∧ t.block.byteCount = 2)

/-- R129: CRC_FEED3, with the rule's example of three feeds. -/
def Obligations.CrcFeed3AppendsThreeBytes : Prop :=
  decode ⟨.write 32 0x00000004#32, 0x00⟩ = .ok .crcFeed3 ∧
  (∀ s : State, exec .crcFeed3 s = .next { s with
    block := { s.block with
      crcState :=
        feed (feed (feed s.block.crcState (s.block.arg.extractLsb' 16 8))
          (s.block.arg.extractLsb' 8 8)) (s.block.arg.extractLsb' 0 8)
      byteCount := s.block.byteCount + 3 }
    response := some .written }) ∧
  (∀ s : State, s.block.byteCount = 0xFFFFFFFD → ∃ t, exec .crcFeed3 s = .next t ∧
    t.block.byteCount = 0x00000000) ∧
  (∀ s : State, s.block.crcState = 0xFFFFFFFF → s.block.byteCount = 0 → ∃ t1 t2 t3,
    exec .crcFeed4 { s with block := { s.block with arg := 0x31323334 } } = .next t1 ∧
    exec .crcFeed3 { t1 with block := { t1.block with arg := 0x00353637 } } = .next t2 ∧
    exec .crcFeed2 { t2 with block := { t2.block with arg := 0x00003839 } } = .next t3 ∧
    t3.block.crcResult = 0xCBF43926 ∧ t3.block.byteCount = 9)

/-- R130: CRC_FEED4. -/
def Obligations.CrcFeed4AppendsFourBytes : Prop :=
  decode ⟨.write 32 0x00000005#32, 0x00⟩ = .ok .crcFeed4 ∧
  (∀ s : State, exec .crcFeed4 s = .next { s with
    block := { s.block with
      crcState :=
        feed (feed (feed (feed s.block.crcState (s.block.arg.extractLsb' 24 8))
          (s.block.arg.extractLsb' 16 8)) (s.block.arg.extractLsb' 8 8)) (s.block.arg.extractLsb' 0 8)
      byteCount := s.block.byteCount + 4 }
    response := some .written }) ∧
  (∀ s : State, s.block.byteCount = 0xFFFFFFFC → ∃ t, exec .crcFeed4 s = .next t ∧
    t.block.byteCount = 0x00000000) ∧
  (∀ s : State, s.block.crcState = 0xFFFFFFFF → s.block.arg = 0xFFFFFFFF →
    ∃ t, exec .crcFeed4 s = .next t ∧ t.block.crcState = 0x00000000 ∧
      t.block.crcResult = 0xFFFFFFFF) ∧
  (∀ s : State, s.block.crcState = 0xFFFFFFFF → s.block.byteCount = 0 → s.block.arg = 0x49454E44 →
    ∃ t, exec .crcFeed4 s = .next t ∧ t.block.crcState = 0x51BD9F7D ∧
      t.block.crcResult = 0xAE426082 ∧ t.block.byteCount = 4)

/-- R131 and R162: CRC_CHECK. -/
def Obligations.CrcCheckComparesAllBits : Prop :=
  decode ⟨.write 32 0x00000006#32, 0x00⟩ = .ok .crcCheck ∧
  (∀ s : State, s.block.crcState ^^^ 0xFFFFFFFF = s.block.arg → exec .crcCheck s = .next { s with
    block := { s.block with
      status := { s.block.status with crcMatch := true, crcErr := false } }
    response := some .written }) ∧
  (∀ s : State, s.block.crcState ^^^ 0xFFFFFFFF ≠ s.block.arg → exec .crcCheck s = .next { s with
    block := { s.block with
      status := { s.block.status with crcMatch := false, crcErr := true, lastErr := 2 } }
    response := some .written }) ∧
  (∀ s : State, s.block.crcState = 0xFFFFFFFF → s.block.arg = 0x00000000 →
    ∃ t, exec .crcCheck s = .next t ∧ t.block.status.crcMatch = true) ∧
  (∀ s : State, s.block.crcState = 0x542E27B1 → s.block.arg = 0xABD1D84E →
    ∃ t, exec .crcCheck s = .next t ∧ t.block.status.crcMatch = true) ∧
  (∀ s : State, s.block.crcState = 0x542E27B1 → s.block.arg = 0xABD1D84F →
    ∃ t, exec .crcCheck s = .next t ∧ t.block.status.crcErr = true ∧ t.block.status.lastErr = 2)

/-- R134: if a stored checksum passes, then with any one bit flipped it fails. -/
def Obligations.FlippedChecksumBitFails : Prop :=
  ∀ (s t : State) (c : Word) (k : Nat), k < 32 →
    exec .crcCheck { s with block := { s.block with arg := c } } = .next t →
    t.block.status.crcMatch = true →
      ∃ u, exec .crcCheck { s with block := { s.block with arg := c ^^^ (1#32 <<< k) } } = .next u ∧
        u.block.status.crcErr = true ∧ u.block.status.crcMatch = false ∧ u.block.status.lastErr = 2

/-! ### Control commands -/

/-- R150, R78: NOP changes no register, and no other command word has that property. -/
def Obligations.NopAloneHasNoEffect : Prop :=
  decode ⟨.write 32 0x00000000#32, 0x00⟩ = .ok .nop ∧
  (∀ s : State, exec .nop s = .next { s with response := some .written }) ∧
  (∀ w : Word, w ≠ 0x00000000 → ∃ s t, exec (decodeCmd w) s = .next t ∧ t.block ≠ s.block)

/-- R152, R169: CLEAR_STATUS clears every error indication and nothing else; it is idempotent. -/
def Obligations.ClearStatusClearsErrorsOnly : Prop :=
  decode ⟨.write 32 0x00000009#32, 0x00⟩ = .ok .clearStatus ∧
  (∀ s : State, exec .clearStatus s = .next { s with
    block := { s.block with
      status := { s.block.status with
        typeErr := false, typeErrIdx := 0, crcErr := false, cmdErr := false, lastErr := 0 } }
    response := some .written }) ∧
  (∀ s : State, ∃ t, exec .clearStatus s = .next t ∧ exec .clearStatus t = .next t) ∧
  (∀ s : State, s.block.status.toWord = 0x0003060A → ∃ t, exec .clearStatus s = .next t ∧
    t.block.status.toWord = 0x00000000)

/-- R153, R163: an illegal word sets CMD_ERR and LAST_ERR = 3 and executes nothing; the bus write completes without a bus error. -/
def Obligations.IllegalWordRaisesCmdError : Prop :=
  (∀ w : Word, (w.extractLsb' 8 24 ≠ 0 ∨ 0x0A ≤ (w.extractLsb' 0 8).toNat) →
    decode ⟨.write 32 w, 0x00⟩ = .ok (.illegal w)) ∧
  (∀ (w : Word) (s : State), exec (.illegal w) s = .next { s with
    block := { s.block with status := { s.block.status with cmdErr := true, lastErr := 3 } }
    response := some .written }) ∧
  (∀ s : State, s.block = Block.reset → ∃ t, exec (.illegal 0x0000000A) s = .next t ∧
    t.block.status.toWord = 0x00030400) ∧
  (∀ (s t : State) (i : Instr), i ≠ .clearStatus → s.block.status.cmdErr = true →
    exec i s = .next t → t.block.status.cmdErr = true)

/-! ### Reset and power -/

/-- R180: when reset is applied every stored register takes its reset value. The whole next state is given as well: that the level of the line becomes applied, the response is cleared and the other fields stay is no rule of the spec but the model's choice (log 6, log 9, DESIGN CHOICE). -/
def Obligations.ResetSetsEveryRegister : Prop :=
  (∀ (s : State) (rest : List HostInput), s.inputs = .reset true :: rest → ∃ t, step s = .next t ∧
    t.block.arg = 0x00000000 ∧ t.block.crcState = 0xFFFFFFFF ∧ t.block.byteCount = 0x00000000 ∧
    t.block.typeReg = 0x00000000 ∧ t.block.status.toWord = 0x00000000 ∧
    t = { s with inputs := rest, block := Block.reset, response := none, resetLine := true }) ∧
  (State.reset.block.arg = 0x00000000 ∧ State.reset.block.crcState = 0xFFFFFFFF ∧
    State.reset.block.byteCount = 0x00000000 ∧ State.reset.block.typeReg = 0x00000000 ∧
    State.reset.block.status.toWord = 0x00000000)

/-- The model's choice (log 6, DESIGN CHOICE): releasing reset changes no register. No rule of the spec speaks of a release. The level of the line and the cleared response are the model's choice as well (log 6, log 9). -/
def Obligations.ReleasingResetKeepsTheBlock : Prop :=
  ∀ (s : State) (rest : List HostInput), s.inputs = .reset false :: rest →
    step s = .next { s with inputs := rest, response := none, resetLine := false }

/-- R181: an access to the window while reset is applied is refused. -/
def Obligations.AccessDuringResetIsRefused : Prop :=
  ∀ (s : State) (rest : List HostInput) (op : BusOp) (off : Nat), s.resetLine = true → off < 32 →
    s.inputs = .access op (s.base + off) :: rest → step s = .refused .accessDuringReset

/-- R182: after reset CRC_RESULT, BYTE_COUNT and STATUS read 0 and no type has been checked. -/
def Obligations.AfterResetNothingFed : Prop :=
  ∀ s : State, s.block = Block.reset →
    (∃ t, exec .rCrcResult s = .next t ∧ t.response = some (.data 0x00000000)) ∧
    (∃ t, exec .rByteCount s = .next t ∧ t.response = some (.data 0x00000000)) ∧
    (∃ t, exec .rStatus s = .next t ∧ t.response = some (.data 0x00000000)) ∧
    s.block.status.typeValid = false ∧ s.block.status.typeErr = false ∧
    s.block.typeReg = 0x00000000 ∧ s.block.HoldsStream []

/-- R176: after a loss of power the block must be reset before use; whatever the registers hold then, reset gives every one its reset value. That a loss of power is an input, and the free values it leaves, are the model's (log 7). -/
def Obligations.ResetAfterPowerLoss : Prop :=
  ∀ (s : State) (rest : List HostInput), s.inputs = .powerLoss :: .reset true :: rest →
    ∃ t, runSteps 2 s = .next t ∧ t.block = Block.reset ∧ t.inputs = rest

/-! ### Invariants -/

/-- R46 at reset. -/
def Obligations.ConsistentAtReset : Prop :=
  State.reset.block.Consistent

/-- R46 is kept by every step but a loss of power, and reset establishes it from any state. A loss of power is excepted because R176 guarantees no state after it (log 7, DEDUCED). -/
def Obligations.StepKeepsConsistent : Prop :=
  (∀ s t : State, s.block.Consistent → s.inputs.head? ≠ some .powerLoss → step s = .next t →
    t.block.Consistent) ∧
  (∀ s t : State, s.inputs.head? = some (.reset true) → step s = .next t → t.block.Consistent)

/-- R46: in every state reachable from reset, with whatever inputs but a loss of power and at whatever BASE, (a) to (g) hold. A loss of power is excepted because R176 guarantees no state after it (log 7, DEDUCED). -/
def Obligations.ReachableStatesAreConsistent : Prop :=
  ∀ (ins : List HostInput) (base k : Nat) (t : State), HostInput.powerLoss ∉ ins →
    runSteps k { State.reset with inputs := ins, baseIndex := base } = .next t →
      t.block.Consistent ∧ t.block.status.toWord.extractLsb' 11 5 = 0 ∧
        t.block.status.toWord.extractLsb' 20 12 = 0

/-- R26: while the invariants of R46 hold, TYPE is not 0 exactly when TYPE_VALID = 1; 0 is no valid type code. -/
def Obligations.TypeIsZeroUnlessValid : Prop :=
  classify 0x00000000 ≠ .valid ∧
  ∀ b : Block, b.Consistent → (b.typeReg ≠ 0x00000000 ↔ b.status.typeValid = true)

/-- R124, one step: if the block holds a stream, then after a step, other than a loss of power, it holds the stream with what the step fed. A loss of power is excepted because R176 guarantees no state after it (log 7, DEDUCED). -/
def Obligations.StepKeepsStream : Prop :=
  ∀ (s t : State) (m : List Byte), s.block.HoldsStream m → s.inputs.head? ≠ some .powerLoss →
    step s = .next t → t.block.HoldsStream (nextStream s m)

/-- R124: in every state reachable from reset without a loss of power, CRC_STATE, CRC_RESULT and BYTE_COUNT are those of the bytes fed since the last CRC_INIT or reset. A loss of power is excepted because R176 guarantees no state after it (log 7, DEDUCED). -/
def Obligations.ReachableStatesHoldTheirStream : Prop :=
  ∀ (ins : List HostInput) (base k : Nat) (t : State), HostInput.powerLoss ∉ ins →
    runSteps k { State.reset with inputs := ins, baseIndex := base } = .next t →
      t.block.crcState =
          feedAll 0xFFFFFFFF (streamAfter k { State.reset with inputs := ins, baseIndex := base } []) ∧
        t.block.crcResult =
          crc32 (streamAfter k { State.reset with inputs := ins, baseIndex := base } []) ∧
        t.block.byteCount.toNat =
          (streamAfter k { State.reset with inputs := ins, baseIndex := base } []).length % 2 ^ 32

/-! ### Host procedures -/

/-- R81: crc.bytes feeds any byte string in order, whatever its length. -/
def Obligations.CrcBytesFeedsInOrder : Prop :=
  ∀ (s : State) (m : List Byte), ∃ t,
    runSteps (Pseudo.crcBytes m).expand.length (s.withLines (Pseudo.crcBytes m).expand) = .next t ∧
      t.block.crcState = feedAll s.block.crcState m ∧
      t.block.byteCount = s.block.byteCount + BitVec.ofNat 32 m.length ∧
      t.block.typeReg = s.block.typeReg ∧ t.block.status = s.block.status ∧ t.inputs = []

/-- R132: the host's procedure reads CRC32(t ++ p) for a valid type code t and any payload p, and BYTE_COUNT is n + 4; for an invalid t the TYPE error is raised and nothing of t is fed. -/
def Obligations.ChunkChecksumProcedure : Prop :=
  (∀ (s : State) (t : Word) (p : List Byte), classify t = .valid → ∃ u,
    runSteps (chunkChecksum t p).length (s.withLines (chunkChecksum t p)) = .next u ∧
      u.response = some (.data (crc32 (argBytes t 4 ++ p))) ∧
      u.block.byteCount = BitVec.ofNat 32 (p.length + 4)) ∧
  (∀ (s : State) (t : Word) (k : BitVec 2), classify t = .invalid k → ∃ u,
    runSteps 3 (s.withLines (Pseudo.crcInit.expand ++ (Pseudo.typeFeed t).expand)) = .next u ∧
      u.block.status.typeErr = true ∧ u.block.status.lastErr = 1 ∧
      u.block.crcState = 0xFFFFFFFF ∧ u.block.byteCount = 0)

/-- R133: the host's verification: TYPE_ERR for an invalid type; for a valid one, CRC_MATCH exactly when the stored checksum is CRC32(t ++ p), and CRC_ERR otherwise; an invalid type feeds nothing of itself; the STATUS the host reads last is the block's. -/
def Obligations.ChunkVerifyProcedure : Prop :=
  ∀ (s : State) (t : Word) (p : List Byte) (c : Word), ∃ u,
    runSteps (chunkVerify t p c).length (s.withLines (chunkVerify t p c)) = .next u ∧
      u.response = some (.data u.block.status.toWord) ∧
      (u.block.status.typeErr = true ↔ classify t ≠ .valid) ∧
      (classify t = .valid →
        (u.block.status.crcMatch = true ↔ c = crc32 (argBytes t 4 ++ p)) ∧
        (u.block.status.crcErr = true ↔ c ≠ crc32 (argBytes t 4 ++ p))) ∧
      (classify t ≠ .valid → u.block.crcState = feedAll 0xFFFFFFFF p)
end

