-- ==== Sys2Proof/Laws/State.lean ====
section
/-! SUPPORT. One lemma per field per update of the state. -/

namespace Sys2Proof.Machine

@[simp] theorem Block.setArg_arg (b : Block) (v : Word) : (b.setArg v).arg = v := rfl
@[simp] theorem Block.setArg_crcState (b : Block) (v : Word) : (b.setArg v).crcState = b.crcState := rfl
@[simp] theorem Block.setArg_byteCount (b : Block) (v : Word) : (b.setArg v).byteCount = b.byteCount := rfl
@[simp] theorem Block.setArg_typeReg (b : Block) (v : Word) : (b.setArg v).typeReg = b.typeReg := rfl
@[simp] theorem Block.setArg_status (b : Block) (v : Word) : (b.setArg v).status = b.status := rfl

@[simp] theorem Block.setCrc_arg (b : Block) (c n : Word) : (b.setCrc c n).arg = b.arg := rfl
@[simp] theorem Block.setCrc_crcState (b : Block) (c n : Word) : (b.setCrc c n).crcState = c := rfl
@[simp] theorem Block.setCrc_byteCount (b : Block) (c n : Word) : (b.setCrc c n).byteCount = n := rfl
@[simp] theorem Block.setCrc_typeReg (b : Block) (c n : Word) : (b.setCrc c n).typeReg = b.typeReg := rfl
@[simp] theorem Block.setCrc_status (b : Block) (c n : Word) : (b.setCrc c n).status = b.status := rfl

@[simp] theorem Block.setType_arg (b : Block) (v : Word) : (b.setType v).arg = b.arg := rfl
@[simp] theorem Block.setType_crcState (b : Block) (v : Word) : (b.setType v).crcState = b.crcState := rfl
@[simp] theorem Block.setType_byteCount (b : Block) (v : Word) : (b.setType v).byteCount = b.byteCount := rfl
@[simp] theorem Block.setType_typeReg (b : Block) (v : Word) : (b.setType v).typeReg = v := rfl
@[simp] theorem Block.setType_status (b : Block) (v : Word) : (b.setType v).status = b.status := rfl

@[simp] theorem Block.setStatus_arg (b : Block) (st : Status) : (b.setStatus st).arg = b.arg := rfl
@[simp] theorem Block.setStatus_crcState (b : Block) (st : Status) : (b.setStatus st).crcState = b.crcState := rfl
@[simp] theorem Block.setStatus_byteCount (b : Block) (st : Status) : (b.setStatus st).byteCount = b.byteCount := rfl
@[simp] theorem Block.setStatus_typeReg (b : Block) (st : Status) : (b.setStatus st).typeReg = b.typeReg := rfl
@[simp] theorem Block.setStatus_status (b : Block) (st : Status) : (b.setStatus st).status = st := rfl

@[simp] theorem State.setBlock_block (s : State) (b : Block) : (s.setBlock b).block = b := rfl
@[simp] theorem State.setBlock_response (s : State) (b : Block) : (s.setBlock b).response = s.response := rfl
@[simp] theorem State.setBlock_inputs (s : State) (b : Block) : (s.setBlock b).inputs = s.inputs := rfl
@[simp] theorem State.setBlock_resetLine (s : State) (b : Block) : (s.setBlock b).resetLine = s.resetLine := rfl
@[simp] theorem State.setBlock_baseIndex (s : State) (b : Block) : (s.setBlock b).baseIndex = s.baseIndex := rfl
@[simp] theorem State.setBlock_powerUps (s : State) (b : Block) : (s.setBlock b).powerUps = s.powerUps := rfl
@[simp] theorem State.setBlock_base (s : State) (b : Block) : (s.setBlock b).base = s.base := rfl

@[simp] theorem State.respond_block (s : State) (r : Option Response) : (s.respond r).block = s.block := rfl
@[simp] theorem State.respond_response (s : State) (r : Option Response) : (s.respond r).response = r := rfl
@[simp] theorem State.respond_inputs (s : State) (r : Option Response) : (s.respond r).inputs = s.inputs := rfl
@[simp] theorem State.respond_resetLine (s : State) (r : Option Response) : (s.respond r).resetLine = s.resetLine := rfl
@[simp] theorem State.respond_baseIndex (s : State) (r : Option Response) : (s.respond r).baseIndex = s.baseIndex := rfl
@[simp] theorem State.respond_powerUps (s : State) (r : Option Response) : (s.respond r).powerUps = s.powerUps := rfl
@[simp] theorem State.respond_base (s : State) (r : Option Response) : (s.respond r).base = s.base := rfl

@[simp] theorem State.setInputs_block (s : State) (is : List HostInput) : (s.setInputs is).block = s.block := rfl
@[simp] theorem State.setInputs_response (s : State) (is : List HostInput) : (s.setInputs is).response = s.response := rfl
@[simp] theorem State.setInputs_inputs (s : State) (is : List HostInput) : (s.setInputs is).inputs = is := rfl
@[simp] theorem State.setInputs_resetLine (s : State) (is : List HostInput) : (s.setInputs is).resetLine = s.resetLine := rfl
@[simp] theorem State.setInputs_baseIndex (s : State) (is : List HostInput) : (s.setInputs is).baseIndex = s.baseIndex := rfl
@[simp] theorem State.setInputs_powerUps (s : State) (is : List HostInput) : (s.setInputs is).powerUps = s.powerUps := rfl
@[simp] theorem State.setInputs_base (s : State) (is : List HostInput) : (s.setInputs is).base = s.base := rfl

@[simp] theorem State.setResetLine_block (s : State) (l : Bool) : (s.setResetLine l).block = s.block := rfl
@[simp] theorem State.setResetLine_response (s : State) (l : Bool) : (s.setResetLine l).response = s.response := rfl
@[simp] theorem State.setResetLine_inputs (s : State) (l : Bool) : (s.setResetLine l).inputs = s.inputs := rfl
@[simp] theorem State.setResetLine_resetLine (s : State) (l : Bool) : (s.setResetLine l).resetLine = l := rfl
@[simp] theorem State.setResetLine_baseIndex (s : State) (l : Bool) : (s.setResetLine l).baseIndex = s.baseIndex := rfl
@[simp] theorem State.setResetLine_powerUps (s : State) (l : Bool) : (s.setResetLine l).powerUps = s.powerUps := rfl
@[simp] theorem State.setResetLine_base (s : State) (l : Bool) : (s.setResetLine l).base = s.base := rfl

@[simp] theorem State.setPowerUps_block (s : State) (n : Nat) : (s.setPowerUps n).block = s.block := rfl
@[simp] theorem State.setPowerUps_response (s : State) (n : Nat) : (s.setPowerUps n).response = s.response := rfl
@[simp] theorem State.setPowerUps_inputs (s : State) (n : Nat) : (s.setPowerUps n).inputs = s.inputs := rfl
@[simp] theorem State.setPowerUps_resetLine (s : State) (n : Nat) : (s.setPowerUps n).resetLine = s.resetLine := rfl
@[simp] theorem State.setPowerUps_baseIndex (s : State) (n : Nat) : (s.setPowerUps n).baseIndex = s.baseIndex := rfl
@[simp] theorem State.setPowerUps_powerUps (s : State) (n : Nat) : (s.setPowerUps n).powerUps = n := rfl
@[simp] theorem State.setPowerUps_base (s : State) (n : Nat) : (s.setPowerUps n).base = s.base := rfl

end Sys2Proof.Machine
end

