-- ==== Sys2Proof/Laws/Ops.lean ====
section
/-! SUPPORT. What each shared operation over the registers does, said once. -/

namespace Sys2Proof.Machine

/-! ### Completion of an access -/

theorem State.complete_eq (s : State) (b : Block) (r : Response) :
    s.complete b r = .next { s with block := b, response := some r } := rfl

/-- Everything a completed access can leave. -/
theorem State.complete_next {s t : State} {b : Block} {r : Response} (h : s.complete b r = .next t) :
    t = { s with block := b, response := some r } := by
  rw [State.complete_eq] at h
  injection h with h
  exact h.symm

theorem State.command_eq (s : State) (b : Block) :
    s.command b = .next { s with block := b, response := some .written } := rfl

theorem State.readData_eq (s : State) (v : Word) :
    s.readData v = .next { s with response := some (.data v) } := rfl

theorem State.writeIgnored_eq (s : State) :
    s.writeIgnored = .next { s with response := some .written } := rfl

/-! ### Operands -/

@[simp] theorem argBytes_length (v : Word) (n : Nat) : (argBytes v n).length = n := by
  simp [argBytes]

theorem argBytes_one (v : Word) : argBytes v 1 = [v.extractLsb' 0 8] := rfl

theorem argBytes_two (v : Word) : argBytes v 2 = [v.extractLsb' 8 8, v.extractLsb' 0 8] := rfl

theorem argBytes_three (v : Word) :
    argBytes v 3 = [v.extractLsb' 16 8, v.extractLsb' 8 8, v.extractLsb' 0 8] := rfl

theorem argBytes_four (v : Word) :
    argBytes v 4 =
      [v.extractLsb' 24 8, v.extractLsb' 16 8, v.extractLsb' 8 8, v.extractLsb' 0 8] := rfl

/-! ### Errors -/

theorem Block.raise_type (b : Block) (k : BitVec 2) :
    b.raise (.type k) =
      { b with
        typeReg := 0
        status :=
          { b.status with
            typeValid := false, typeErr := true, typeErrIdx := k
            critical := false, publicBit := false, reservedValid := false, safeToCopy := false
            lastErr := 1 } } := rfl

theorem Block.raise_crc (b : Block) :
    b.raise .crc =
      { b with status := { b.status with crcMatch := false, crcErr := true, lastErr := 2 } } := rfl

theorem Block.raise_cmd (b : Block) :
    b.raise .cmd = { b with status := { b.status with cmdErr := true, lastErr := 3 } } := rfl

/-! ### Streams and type checks -/

@[simp] theorem feedAll_nil (s : Word) : feedAll s [] = s := rfl

@[simp] theorem feedAll_cons (s : Word) (b : Byte) (m : List Byte) :
    feedAll s (b :: m) = feedAll (feed s b) m := rfl

theorem Block.feedBytes_eq (b : Block) (m : List Byte) :
    b.feedBytes m =
      { b with
        crcState := feedAll b.crcState m
        byteCount := b.byteCount + BitVec.ofNat 32 m.length } := rfl

/-- A type check either accepts the value or raises the TYPE error at one index. -/
theorem Block.checkType_cases (b : Block) (v : Word) :
    (classify v = .valid ∧ b.checkType v = b.acceptType v) ∨
      (∃ k, classify v = .invalid k ∧ b.checkType v = b.raise (.type k)) := by
  unfold Block.checkType
  cases h : classify v with
  | valid => exact .inl ⟨rfl, rfl⟩
  | invalid k => exact .inr ⟨k, rfl, rfl⟩

theorem Block.checkType_valid {v : Word} (h : classify v = .valid) (b : Block) :
    b.checkType v = b.acceptType v := by
  simp [Block.checkType, h]

theorem Block.checkType_invalid {v : Word} {k : BitVec 2} (h : classify v = .invalid k) (b : Block) :
    b.checkType v = b.raise (.type k) := by
  simp [Block.checkType, h]

end Sys2Proof.Machine
end

