-- ==== Sys2Proof/Laws/PerInstr.lean ====
section
/-! SUPPORT. Statements made once per instruction. -/

namespace Sys2Proof.Laws.EncodeInWindow

/-- The access of a well-formed instruction lies in the window, and only the refused access is malformed (R51, R52). -/
def Statement (i : Instr) : Prop :=
  i.wf = true →
    (encode i).inWindow = true ∧ ((encode i).malformed = true ↔ ∃ a, i = .busError a)

theorem nop : Statement .nop := fun _ =>
  ⟨rfl, by simp [encode, write32, Access.malformed, BusOp.width]⟩

theorem crcInit : Statement .crcInit := fun _ =>
  ⟨rfl, by simp [encode, write32, Access.malformed, BusOp.width]⟩

theorem crcFeed1 : Statement .crcFeed1 := fun _ =>
  ⟨rfl, by simp [encode, write32, Access.malformed, BusOp.width]⟩

theorem crcFeed2 : Statement .crcFeed2 := fun _ =>
  ⟨rfl, by simp [encode, write32, Access.malformed, BusOp.width]⟩

theorem crcFeed3 : Statement .crcFeed3 := fun _ =>
  ⟨rfl, by simp [encode, write32, Access.malformed, BusOp.width]⟩

theorem crcFeed4 : Statement .crcFeed4 := fun _ =>
  ⟨rfl, by simp [encode, write32, Access.malformed, BusOp.width]⟩

theorem crcCheck : Statement .crcCheck := fun _ =>
  ⟨rfl, by simp [encode, write32, Access.malformed, BusOp.width]⟩

theorem typeCheck : Statement .typeCheck := fun _ =>
  ⟨rfl, by simp [encode, write32, Access.malformed, BusOp.width]⟩

theorem typeFeed : Statement .typeFeed := fun _ =>
  ⟨rfl, by simp [encode, write32, Access.malformed, BusOp.width]⟩

theorem clearStatus : Statement .clearStatus := fun _ =>
  ⟨rfl, by simp [encode, write32, Access.malformed, BusOp.width]⟩

theorem rCmd : Statement .rCmd := fun _ =>
  ⟨rfl, by simp [encode, read32, Access.malformed, BusOp.width]⟩

theorem rArg : Statement .rArg := fun _ =>
  ⟨rfl, by simp [encode, read32, Access.malformed, BusOp.width]⟩

theorem rStatus : Statement .rStatus := fun _ =>
  ⟨rfl, by simp [encode, read32, Access.malformed, BusOp.width]⟩

theorem rCrcState : Statement .rCrcState := fun _ =>
  ⟨rfl, by simp [encode, read32, Access.malformed, BusOp.width]⟩

theorem rCrcResult : Statement .rCrcResult := fun _ =>
  ⟨rfl, by simp [encode, read32, Access.malformed, BusOp.width]⟩

theorem rByteCount : Statement .rByteCount := fun _ =>
  ⟨rfl, by simp [encode, read32, Access.malformed, BusOp.width]⟩

theorem rType : Statement .rType := fun _ =>
  ⟨rfl, by simp [encode, read32, Access.malformed, BusOp.width]⟩

theorem rReserved : Statement .rReserved := fun _ =>
  ⟨rfl, by simp [encode, read32, Access.malformed, BusOp.width]⟩

theorem illegal (v : Word) : Statement (.illegal v) := fun _ =>
  ⟨rfl, by simp [encode, write32, Access.malformed, BusOp.width]⟩

theorem wArg (v : Word) : Statement (.wArg v) := fun _ =>
  ⟨rfl, by simp [encode, write32, Access.malformed, BusOp.width]⟩

theorem wStatus (v : Word) : Statement (.wStatus v) := fun _ =>
  ⟨rfl, by simp [encode, write32, Access.malformed, BusOp.width]⟩

theorem wCrcState (v : Word) : Statement (.wCrcState v) := fun _ =>
  ⟨rfl, by simp [encode, write32, Access.malformed, BusOp.width]⟩

theorem wCrcResult (v : Word) : Statement (.wCrcResult v) := fun _ =>
  ⟨rfl, by simp [encode, write32, Access.malformed, BusOp.width]⟩

theorem wByteCount (v : Word) : Statement (.wByteCount v) := fun _ =>
  ⟨rfl, by simp [encode, write32, Access.malformed, BusOp.width]⟩

theorem wType (v : Word) : Statement (.wType v) := fun _ =>
  ⟨rfl, by simp [encode, write32, Access.malformed, BusOp.width]⟩

theorem wReserved (v : Word) : Statement (.wReserved v) := fun _ =>
  ⟨rfl, by simp [encode, write32, Access.malformed, BusOp.width]⟩

theorem busError (a : Access) : Statement (.busError a) := by
  intro h
  simp only [Instr.wf, Bool.and_eq_true] at h
  exact ⟨h.2, fun _ => ⟨a, rfl⟩, fun _ => h.1⟩

end Sys2Proof.Laws.EncodeInWindow
end

