-- ==== Sys2Proof/Laws/Step.lean ====
section
/-! SUPPORT. How an access reaches the decoder, what taking an input can do, and runs. -/

namespace Sys2Proof.Machine

/-! ### The window -/

/-- An address at BASE + off selects off (R65). -/
theorem State.select_base (s : State) (op : BusOp) {off : Nat} (h : off < 32) :
    s.select op (s.base + off) = some ⟨op, off⟩ := by
  have : Config.windowBytes = 32 := rfl
  simp [State.select, this, h]

/-- An address outside the window selects nothing (R164). -/
theorem State.select_outside (s : State) (op : BusOp) {addr : Nat}
    (h : addr < s.base ∨ s.base + 32 ≤ addr) : s.select op addr = none := by
  have : Config.windowBytes = 32 := rfl
  unfold State.select
  rw [if_neg]
  omega

/-- Everything a selected access can be: its operation at an offset of the window. -/
theorem State.select_some {s : State} {op : BusOp} {addr : Nat} {a : Access}
    (h : s.select op addr = some a) : a.op = op ∧ addr = s.base + a.off ∧ a.off < 32 := by
  have hw : Config.windowBytes = 32 := rfl
  unfold State.select at h
  split at h
  next hb =>
    injection h with h
    subst h
    refine ⟨rfl, ?_, ?_⟩ <;> simp only <;> omega
  · exact absurd h (by simp)

/-! ### The decoder inside the window -/

theorem decode_read32 {off : Nat} (h : off < 32) (h4 : off % 4 = 0) :
    decode (read32 off) = decodeRead off := by
  simp [decode, read32, Access.inWindow, Access.malformed, BusOp.width, Config.windowBytes, h, h4]

theorem decode_write32 {off : Nat} (v : Word) (h : off < 32) (h4 : off % 4 = 0) :
    decode (write32 off v) = decodeWrite off v := by
  simp [decode, write32, Access.inWindow, Access.malformed, BusOp.width, Config.windowBytes, h, h4]

theorem decode_malformed {a : Access} (h : a.off < 32) (hm : a.malformed = true) :
    decode a = .ok (.busError a) := by
  simp [decode, Access.inWindow, Config.windowBytes, h, hm]

/-! ### Taking an input -/

theorem State.fetch_nil {s : State} (h : s.inputs = []) : s.fetch = .done s := by
  simp [State.fetch, h]

theorem State.fetch_reset {s : State} {rest : List HostInput} (h : s.inputs = .reset true :: rest) :
    s.fetch = .done (((s.setInputs rest).applyReset).setResetLine true) := by
  simp [State.fetch, h]

theorem State.fetch_release {s : State} {rest : List HostInput}
    (h : s.inputs = .reset false :: rest) :
    s.fetch = .done (((s.setInputs rest).respond none).setResetLine false) := by
  simp [State.fetch, h]

theorem State.fetch_powerLoss {s : State} {rest : List HostInput} (h : s.inputs = .powerLoss :: rest) :
    s.fetch = .done ((s.setInputs rest).losePower) := by
  simp [State.fetch, h]

theorem State.fetch_access {s : State} {op : BusOp} {addr : Nat} {rest : List HostInput}
    (h : s.inputs = .access op addr :: rest) :
    s.fetch = (s.setInputs rest).fetchAccess op addr := by
  simp [State.fetch, h]

/-- Everything an access can lead to: it misses the window, it is refused during reset, or it runs what it decodes to. -/
theorem State.fetchAccess_cases (s : State) (op : BusOp) (addr : Nat) :
    (s.select op addr = none ∧ s.fetchAccess op addr = .done (s.respond none)) ∨
      (∃ a, s.select op addr = some a ∧ s.resetLine = true ∧
        s.fetchAccess op addr = .stop .accessDuringReset) ∨
      (∃ a i, s.select op addr = some a ∧ s.resetLine = false ∧ decode a = .ok i ∧
        s.fetchAccess op addr = .run i s) ∨
      (∃ a, s.select op addr = some a ∧ s.resetLine = false ∧ decode a = .error .outsideWindow ∧
        s.fetchAccess op addr = .stuck .accessNotDecoded) := by
  unfold State.fetchAccess
  cases hs : s.select op addr with
  | none => exact .inl ⟨rfl, rfl⟩
  | some a =>
    cases hr : s.resetLine with
    | true => exact .inr (.inl ⟨a, rfl, rfl, by simp⟩)
    | false =>
      cases hd : decode a with
      | ok i => exact .inr (.inr (.inl ⟨a, i, rfl, rfl, hd, by simp [hd]⟩))
      | error e => cases e; exact .inr (.inr (.inr ⟨a, rfl, rfl, hd, by simp [hd]⟩))

theorem step_done {s t : State} (h : s.fetch = .done t) : step s = .next t := by
  simp [step, h]

theorem step_run {s t : State} {i : Instr} (h : s.fetch = .run i t) : step s = exec i t := by
  simp [step, h]

theorem step_stuck {s : State} {f : Fault} (h : s.fetch = .stuck f) : step s = .fault f := by
  simp [step, h]

theorem step_stop {s : State} {r : Refusal} (h : s.fetch = .stop r) : step s = .refused r := by
  simp [step, h]

/-! ### Runs -/

@[simp] theorem runSteps_zero (s : State) : runSteps 0 s = .next s := rfl

theorem runSteps_next {s t : State} (h : step s = .next t) (k : Nat) :
    runSteps (k + 1) s = runSteps k t := by
  simp [runSteps, h]

theorem runSteps_add {s t : State} {j : Nat} (h : runSteps j s = .next t) (k : Nat) :
    runSteps (j + k) s = runSteps k t := by
  induction j generalizing s with
  | zero =>
    rw [runSteps_zero] at h
    injection h with h
    rw [Nat.zero_add, h]
  | succ j ih =>
    rw [Nat.succ_add]
    cases hs : step s with
    | next u => rw [runSteps_next hs] at h ⊢; exact ih h
    | fault r => simp [runSteps, hs] at h
    | refused r => simp [runSteps, hs] at h

theorem runSteps_fault {s : State} {r : Fault} (h : step s = .fault r) (k : Nat) :
    runSteps (k + 1) s = .fault r := by
  simp [runSteps, h]

theorem runSteps_refused {s : State} {r : Refusal} (h : step s = .refused r) (k : Nat) :
    runSteps (k + 1) s = .refused r := by
  simp [runSteps, h]

theorem core_run_next {M : Host.Core} {s t : M.State} (h : M.step s = .next t) (k : Nat) :
    M.run (k + 1) s = M.run k t := by
  rw [Host.Core.run.eq_def]; simp [h]

theorem core_run_fault {M : Host.Core} {s : M.State} {r : M.Fault} (h : M.step s = .fault r)
    (k : Nat) : M.run (k + 1) s = .fault r := by
  rw [Host.Core.run.eq_def]; simp [h]

theorem core_run_refused {M : Host.Core} {s : M.State} {r : M.Refusal} (h : M.step s = .refused r)
    (k : Nat) : M.run (k + 1) s = .refused r := by
  rw [Host.Core.run.eq_def]; simp [h]

/-- A run here is a run of the machine behind the host's interface. -/
theorem runSteps_eq_core_run (k : Nat) (s : State) :
    runSteps k s = Host.Core.run Sys2Proof.core k s := by
  induction k generalizing s with
  | zero => rfl
  | succ k ih =>
    cases h : step s with
    | next t =>
      exact (runSteps_next h k).trans ((ih t).trans (core_run_next (M := Sys2Proof.core) h k).symm)
    | fault r =>
      exact (runSteps_fault h k).trans (core_run_fault (M := Sys2Proof.core) h k).symm
    | refused r =>
      exact (runSteps_refused h k).trans (core_run_refused (M := Sys2Proof.core) h k).symm

end Sys2Proof.Machine
end

