-- ==== Sys2Proof/Tests/Slice0.lean ====
section
/-! SUPPORT. Tests of one step each, with values from 95_test_vectors.md and the rules' own examples, and a witness for the hypotheses of every statement that has some. -/

namespace Sys2Proof.Tests

open Sys2Proof Sys2Proof.Machine

/-- The state an outcome answers, none where it stops. -/
def after : Host.Outcome State Fault Refusal → Option State
  | .next t => some t
  | .fault _ => none
  | .refused _ => none

/-- The machine after reset with this block. -/
def withBlock (b : Block) : State := State.reset.setBlock b

/-- The machine after reset with this value in ARG. -/
def withArgValue (v : Word) : State := withBlock { Block.reset with arg := v }

/-- The machine after reset with this input pending, at BASE = 0x40. -/
def withInput (i : HostInput) : State := { State.reset with inputs := [i], baseIndex := 2 }

/-! ### Well-formedness: one ill-formed term for each check -/

theorem test_wf_refuses_legal_word_as_illegal : (Instr.illegal 0x00000005).wf = false := by decide

theorem test_wf_refuses_serviced_access_as_bus_error :
    (Instr.busError ⟨.read 32, 0x08⟩).wf = false := by decide

theorem test_wf_refuses_bus_error_outside_window :
    (Instr.busError ⟨.read 8, 0x20⟩).wf = false := by decide

theorem test_wf_accepts :
    (Instr.illegal 0x0000000A).wf = true ∧ (Instr.illegal 0x00000100).wf = true ∧
      (Instr.busError ⟨.read 8, 0x1F⟩).wf = true ∧ (Instr.busError ⟨.write 32 0, 0x06⟩).wf = true := by
  decide

/-! ### Decoding: the words of R75 and the offsets of R21, written out -/

theorem test_decode_commands :
    decode ⟨.write 32 0b00000000000000000000000000000000#32, 0b00000⟩ = .ok .nop ∧
    decode ⟨.write 32 0b00000000000000000000000000000001#32, 0b00000⟩ = .ok .crcInit ∧
    decode ⟨.write 32 0b00000000000000000000000000000010#32, 0b00000⟩ = .ok .crcFeed1 ∧
    decode ⟨.write 32 0b00000000000000000000000000000011#32, 0b00000⟩ = .ok .crcFeed2 ∧
    decode ⟨.write 32 0b00000000000000000000000000000100#32, 0b00000⟩ = .ok .crcFeed3 ∧
    decode ⟨.write 32 0b00000000000000000000000000000101#32, 0b00000⟩ = .ok .crcFeed4 ∧
    decode ⟨.write 32 0b00000000000000000000000000000110#32, 0b00000⟩ = .ok .crcCheck ∧
    decode ⟨.write 32 0b00000000000000000000000000000111#32, 0b00000⟩ = .ok .typeCheck ∧
    decode ⟨.write 32 0b00000000000000000000000000001000#32, 0b00000⟩ = .ok .typeFeed ∧
    decode ⟨.write 32 0b00000000000000000000000000001001#32, 0b00000⟩ = .ok .clearStatus := by
  decide

/-- R77: the first and last reserved OPC, a reserved RSV with a legal OPC (L2-K2 to L2-K6). -/
theorem test_decode_illegal :
    decode ⟨.write 32 0x0000000A#32, 0⟩ = .ok (.illegal 0x0000000A) ∧
    decode ⟨.write 32 0x000000FF#32, 0⟩ = .ok (.illegal 0x000000FF) ∧
    decode ⟨.write 32 0x00000105#32, 0⟩ = .ok (.illegal 0x00000105) ∧
    decode ⟨.write 32 0x80000000#32, 0⟩ = .ok (.illegal 0x80000000) := by
  decide

theorem test_decode_reads :
    decode ⟨.read 32, 0b00000⟩ = .ok .rCmd ∧ decode ⟨.read 32, 0b00100⟩ = .ok .rArg ∧
    decode ⟨.read 32, 0b01000⟩ = .ok .rStatus ∧ decode ⟨.read 32, 0b01100⟩ = .ok .rCrcState ∧
    decode ⟨.read 32, 0b10000⟩ = .ok .rCrcResult ∧ decode ⟨.read 32, 0b10100⟩ = .ok .rByteCount ∧
    decode ⟨.read 32, 0b11000⟩ = .ok .rType ∧ decode ⟨.read 32, 0b11100⟩ = .ok .rReserved := by
  decide

theorem test_decode_writes :
    decode ⟨.write 32 0xABD1D84E#32, 0b00100⟩ = .ok (.wArg 0xABD1D84E) ∧
    decode ⟨.write 32 0x12345678#32, 0b01000⟩ = .ok (.wStatus 0x12345678) ∧
    decode ⟨.write 32 0x12345678#32, 0b01100⟩ = .ok (.wCrcState 0x12345678) ∧
    decode ⟨.write 32 0x12345678#32, 0b10000⟩ = .ok (.wCrcResult 0x12345678) ∧
    decode ⟨.write 32 0x12345678#32, 0b10100⟩ = .ok (.wByteCount 0x12345678) ∧
    decode ⟨.write 32 0x12345678#32, 0b11000⟩ = .ok (.wType 0x12345678) ∧
    decode ⟨.write 32 0x12345678#32, 0b11100⟩ = .ok (.wReserved 0x12345678) := by
  decide

/-- L2-B1 to L2-B3, and an access outside the window. -/
theorem test_decode_malformed :
    decode ⟨.read 8, 0x08⟩ = .ok (.busError ⟨.read 8, 0x08⟩) ∧
    decode ⟨.write 16 0x0001#16, 0x00⟩ = .ok (.busError ⟨.write 16 0x0001#16, 0x00⟩) ∧
    decode ⟨.write 32 0#32, 0x06⟩ = .ok (.busError ⟨.write 32 0#32, 0x06⟩) ∧
    decode ⟨.read 32, 0x20⟩ = .error .outsideWindow := by
  decide

/-- The opcode table's numbering: 32-bit rows are command words, one-byte rows are offsets. -/
theorem test_decode_table_words :
    decodeTableWord 32 0x00000008 = some .typeFeed ∧ decodeTableWord 32 0xFFFFFFFF = some (.illegal 0xFFFFFFFF) ∧
    decodeTableWord 8 0x14 = some .rByteCount ∧ decodeTableWord 8 0x24 = some (.wArg 0) ∧
    decodeTableWord 40 0x1234567824 = some (.wArg 0x12345678) ∧
    decodeTableWord 8 0x06 = some (.busError ⟨.read 32, 0x06⟩) ∧ decodeTableWord 16 0 = none := by
  decide

/-! ### The step -/

/-- The placed word is what the next step runs, here a write of ARG at its offset from BASE. -/
theorem test_step_runs_fetch_word :
    (after (step (State.reset.withFetchWord 40 0x5275537424))).map (·.block.arg) = some 0x52755374 := by
  decide

theorem test_step_out_of_window_is_not_answered :
    after (step (withInput (.access (.write 32 5#32) 0x60))) =
      some { withInput (.access (.write 32 5#32) 0x60) with inputs := [] } := by
  decide

/-- R181. -/
theorem test_step_refuses_access_during_reset :
    step ((withInput (.access (.read 32) 0x40)).setResetLine true) = .refused .accessDuringReset := rfl

/-- R180, from a block that is not as after reset. -/
theorem test_step_reset :
    (after (step ((withInput (.reset true)).setBlock ⟨1, 2, 3, 4, Status.ofWord 0x0003060A⟩))).map (·.block)
      = some ⟨0, 0xFFFFFFFF, 0, 0, Status.reset⟩ := by
  decide

/-! ### CRC commands -/

/-- L2-F7. -/
theorem test_crcInit :
    (after (exec .crcInit (withBlock ⟨7, 0x2B7BF6C3, 4, 0, Status.ofWord 0x00020200⟩))).map (·.block) =
      some ⟨7, 0xFFFFFFFF, 0, 0, Status.ofWord 0x00020000⟩ := by
  decide

/-- L2-F1: ARG[31:8] is ignored. -/
theorem test_crcFeed1 :
    (after (exec .crcFeed1 (withArgValue 0xFFFFFF00))).map (fun t => (t.block.crcResult, t.block.byteCount)) =
      some (0xD202EF8D, 1) := by
  decide +kernel

/-- L2-F2: the order of two bytes. -/
theorem test_crcFeed2 :
    (after (exec .crcFeed2 (withArgValue 0x12345678))).map (fun t => (t.block.crcResult, t.block.byteCount)) =
      some (0xF3E61123, 2) := by
  decide +kernel

/-- L2-F3. -/
theorem test_crcFeed3 :
    (after (exec .crcFeed3 (withArgValue 0x12345678))).map (fun t => (t.block.crcResult, t.block.byteCount)) =
      some (0x6E1C9782, 3) := by
  decide +kernel

/-- L2-F4. -/
theorem test_crcFeed4 :
    (after (exec .crcFeed4 (withArgValue 0x12345678))).map (fun t => (t.block.crcResult, t.block.byteCount)) =
      some (0x4A090E98, 4) := by
  decide +kernel

/-- L2-F5: BYTE_COUNT wraps and STATUS does not change. -/
theorem test_crcFeed4_wraps :
    (after (exec .crcFeed4 (withBlock ⟨0x61626364, 0xFFFFFFFF, 0xFFFFFFFE, 0, Status.reset⟩))).map
      (fun t => (t.block.byteCount, t.block.status)) = some (0x00000002, Status.reset) := by
  decide +kernel

/-- L2-F8. -/
theorem test_crcCheck_match :
    (after (exec .crcCheck State.reset)).map (·.block.status.toWord) = some 0x00000100 := by
  decide

/-- L2-F10. -/
theorem test_crcCheck_mismatch :
    (after (exec .crcCheck (withBlock ⟨0xAE426083, 0x51BD9F7D, 4, 0, Status.reset⟩))).map
      (·.block.status.toWord) = some 0x00020200 := by
  decide

/-- L2-C10: the residue for "123456789". -/
theorem test_crc_residue :
    feedAll 0xFFFFFFFF [0x31, 0x32, 0x33, 0x34, 0x35, 0x36, 0x37, 0x38, 0x39, 0x26, 0x39, 0xF4, 0xCB] =
      0xDEBB20E3 := by
  decide +kernel

/-! ### TypeCode commands -/

/-- L2-T6, "tEXt". -/
theorem test_typeCheck_valid :
    (after (exec .typeCheck (withArgValue 0x74455874))).map (fun t => (t.block.status.toWord, t.block.typeReg)) =
      some (0x000000E1, 0x74455874) := by
  decide

/-- L2-T18: a failed check erases the earlier valid TYPE. -/
theorem test_typeCheck_invalid :
    (after (exec .typeCheck (withBlock ⟨0x00000031, 0xFFFFFFFF, 0, 0x52755374, Status.ofWord 0xD1⟩))).map
      (fun t => (t.block.status.toWord, t.block.typeReg)) = some (0x00010002, 0) := by
  decide

/-- The range ends and the bytes next to them (L2-T7, L2-T11 to L2-T14, L2-T16, L2-T17). -/
theorem test_classify_boundaries :
    classify 0x415A617A = .valid ∧ classify 0x40755374 = .invalid 0 ∧ classify 0x525B5374 = .invalid 1 ∧
    classify 0x52756074 = .invalid 2 ∧ classify 0x5275537B = .invalid 3 ∧ classify 0xD2755374 = .invalid 0 ∧
    classify 0x5280FF00 = .invalid 1 := by
  decide

/-- L2-T20. -/
theorem test_typeFeed_valid :
    (after (exec .typeFeed (withArgValue 0x52755374))).map
      (fun t => (t.block.status.toWord, t.block.crcState, t.block.byteCount)) =
      some (0x000000D1, 0x2B7BF6C3, 4) := by
  decide +kernel

/-- L2-T19: nothing is fed on failure. -/
theorem test_typeFeed_invalid :
    (after (exec .typeFeed (withArgValue 0x52755331))).map
      (fun t => (t.block.status.toWord, t.block.crcState, t.block.byteCount)) =
      some (0x0001000E, 0xFFFFFFFF, 0) := by
  decide

/-! ### Control commands -/

/-- L2-K1. -/
theorem test_nop : (after (exec .nop State.reset)).map (·.block) = some State.reset.block := by decide

/-- L2-K8. -/
theorem test_clearStatus :
    (after (exec .clearStatus (withBlock ⟨5, 6, 7, 8, Status.ofWord 0x0003060A⟩))).map (·.block) =
      some ⟨5, 6, 7, 8, Status.reset⟩ := by
  decide

/-- L2-K9: what a clear leaves. -/
theorem test_clearStatus_keeps :
    (after (exec .clearStatus (withBlock { Block.reset with status := Status.ofWord 0x000101D3 }))).map
      (·.block.status.toWord) = some 0x000001D1 := by
  decide

/-- L2-K4. -/
theorem test_illegal :
    (after (exec (.illegal 0x00000105) State.reset)).map (fun t => (t.block.status.toWord, t.block.byteCount)) =
      some (0x00030400, 0) := by
  decide

/-! ### Register accesses -/

/-- L2-B5 to L2-B8, and the readable registers of a block with five different values. -/
theorem test_reads :
    (after (exec .rCmd State.reset)).map (·.response) = some (some (.data 0)) ∧
    (after (exec .rReserved State.reset)).map (·.response) = some (some (.data 0)) ∧
    (after (exec .rCrcResult State.reset)).map (·.response) = some (some (.data 0)) ∧
    (after (exec .rCrcState State.reset)).map (·.response) = some (some (.data 0xFFFFFFFF)) ∧
    (after (exec .rArg (withBlock ⟨5, 6, 7, 8, Status.reset⟩))).map (·.response) = some (some (.data 5)) ∧
    (after (exec .rByteCount (withBlock ⟨5, 6, 7, 8, Status.reset⟩))).map (·.response) = some (some (.data 7)) ∧
    (after (exec .rType (withBlock ⟨5, 6, 7, 8, Status.reset⟩))).map (·.response) = some (some (.data 8)) ∧
    (after (exec .rStatus (withBlock ⟨5, 6, 7, 8, Status.ofWord 0x000304D1⟩))).map (·.response) =
      some (some (.data 0x000304D1)) := by
  decide

/-- L2-B4 and its kind, and the write of ARG. -/
theorem test_writes :
    (after (exec (.wStatus 0x12345678) State.reset)).map (·.block) = some Block.reset ∧
    (after (exec (.wCrcState 0x12345678) State.reset)).map (·.block) = some Block.reset ∧
    (after (exec (.wCrcResult 0x12345678) State.reset)).map (·.block) = some Block.reset ∧
    (after (exec (.wByteCount 0x12345678) State.reset)).map (·.block) = some Block.reset ∧
    (after (exec (.wType 0x12345678) State.reset)).map (·.block) = some Block.reset ∧
    (after (exec (.wReserved 0x12345678) State.reset)).map (·.response) = some (some .written) ∧
    (after (exec (.wArg 0x12345678) State.reset)).map (·.block.arg) = some 0x12345678 := by
  decide

/-- L2-B3. -/
theorem test_busError :
    after (exec (.busError ⟨.write 32 9, 0x06⟩) State.reset) =
      some { State.reset with response := some .busError } := by
  decide

/-! ### Host notation: the expansion of crc.bytes for each length of the rest (R81) -/

theorem test_crcBytes_expansion :
    (Pseudo.crcBytes [0x31, 0x32, 0x33, 0x34, 0x35, 0x36, 0x37]).expand =
      [.write .arg 0x31323334, .write .cmd 5, .write .arg 0x00353637, .write .cmd 4] ∧
    (Pseudo.crcBytes [0x65, 0x21]).expand = [.write .arg 0x00006521, .write .cmd 3] ∧
    (Pseudo.crcBytes [0x39]).expand = [.write .arg 0x00000039, .write .cmd 2] ∧
    (Pseudo.crcBytes []).expand = [] := by
  decide

/-- The wire checksum bytes of program P1. -/
theorem test_wireBytes : wireBytes 0xABD1D84E = [0xAB, 0xD1, 0xD8, 0x4E] := by decide

/-! ### Witnesses: each meets all hypotheses of the statement it is named after, clause by clause -/

theorem witness_DecodeOfEncode :
    (Instr.illegal 0x0000000A).wf = true ∧ (Instr.illegal 0xFFFFFFFF).wf = true ∧ Instr.nop.wf = true ∧
      (Instr.wArg 0xFFFFFFFF).wf = true ∧ (Instr.busError ⟨.write 64 1, 0x1C⟩).wf = true := by
  decide

theorem witness_EncodeOfDecode :
    decode ⟨.write 32 0x0000000A#32, 0⟩ = .ok (.illegal 0x0000000A) ∧ (0x1F : Nat) < 32 := by
  decide

theorem witness_IllegalWords :
    ((0x00000100 : Word).extractLsb' 8 24 ≠ 0) ∧ 0x0A ≤ ((0x0000000A : Word).extractLsb' 0 8).toNat ∧
      0x0A ≤ ((0x000000FF : Word).extractLsb' 0 8).toNat := by
  decide

theorem witness_BigEndianWordFeedsInWireOrder :
    (0x52755374 : Word).toNat = ((0x52 * 256 + 0x75) * 256 + 0x53) * 256 + 0x74 ∧
      (withArgValue 0x52755374).block.arg = 0x52755374 := by
  decide

theorem witness_StepRunsDecodedInstruction :
    (withInput (.access (.read 32) 0x5C)).resetLine = false ∧
      (withInput (.access (.read 32) 0x5C)).inputs =
        [.access (.read 32) ((withInput (.access (.read 32) 0x5C)).base + 0x1C)] ∧
      decode ⟨.read 32, 0x1C⟩ = .ok .rReserved := by
  decide

/-- The four clauses: a read at the first and the last offset, a write at CMD, at ARG, and at the first and the last ignored offset. -/
theorem witness_AlignedAccessIsServiced :
    (withInput (.access (.read 32) 0x40)).inputs =
      [.access (.read 32) ((withInput (.access (.read 32) 0x40)).base + 0x00)] ∧
    (withInput (.access (.read 32) 0x5C)).inputs =
      [.access (.read 32) ((withInput (.access (.read 32) 0x5C)).base + 0x1C)] ∧
    (withInput (.access (.write 32 9#32) 0x40)).inputs =
      [.access (.write 32 9#32) ((withInput (.access (.write 32 9#32) 0x40)).base + 0x00)] ∧
    (withInput (.access (.write 32 9#32) 0x44)).inputs =
      [.access (.write 32 9#32) ((withInput (.access (.write 32 9#32) 0x44)).base + 0x04)] ∧
    (withInput (.access (.write 32 9#32) 0x48)).inputs =
      [.access (.write 32 9#32) ((withInput (.access (.write 32 9#32) 0x48)).base + 0x08)] ∧
    (withInput (.access (.write 32 9#32) 0x5C)).inputs =
      [.access (.write 32 9#32) ((withInput (.access (.write 32 9#32) 0x5C)).base + 0x1C)] ∧
    State.reset.resetLine = false := by
  decide

theorem witness_MalformedAccessGetsBusError :
    (withInput (.access (.read 8) 0x5F)).resetLine = false ∧ (0x1F : Nat) < 32 ∧
      (BusOp.read 8).width ≠ 32 ∧
      (withInput (.access (.read 8) 0x5F)).inputs =
        [.access (.read 8) ((withInput (.access (.read 8) 0x5F)).base + 0x1F)] ∧
      (BusOp.read 32).width = 32 ∧ 0x02 % 4 ≠ 0 ∧
      (withInput (.access (.read 32) 0x42)).inputs =
        [.access (.read 32) ((withInput (.access (.read 32) 0x42)).base + 0x02)] := by
  decide

/-- Just below and just above the window. -/
theorem witness_AccessOutsideWindowDoesNotReachBlock :
    0x3F < (withInput (.access (.read 8) 0x3F)).base ∧
      (withInput (.access (.read 8) 0x60)).base + 32 ≤ 0x60 := by
  decide

theorem witness_ArgIsWrittenByTheHostOnly :
    (∀ v, Instr.crcFeed4 ≠ .wArg v) ∧ ∃ t, exec .crcFeed4 State.reset = .next t :=
  ⟨fun _ h => (by cases h), _, rfl⟩

theorem witness_SideEffectsAndIdempotency :
    classify (withArgValue 0x52755374).block.arg = .valid ∧
      (∀ w, encode (.wArg 5) ≠ ⟨.write 32 w, 0x00⟩) ∧ ∃ t, exec (.wArg 5) State.reset = .next t :=
  ⟨by decide, fun _ => by simp [encode, write32], _, rfl⟩

theorem witness_HistoryIsTheFoldOfAccesses :
    ∃ (s : State) (as : List Access), as.length = 2 ∧ (∀ a ∈ as, a.off < 32) ∧ s.resetLine = false ∧
      s.inputs = as.map s.inputOf :=
  ⟨{ State.reset with inputs := [.access (.read 32) 0x40, .access (.write 8 1#8) 0x5F], baseIndex := 2 },
    [read32 0x00, ⟨.write 8 1#8, 0x1F⟩], by decide, by decide, by decide, by decide⟩

theorem witness_NoHiddenState :
    ∃ s s' t t' : State, s ≠ s' ∧ s.block = s'.block ∧ exec .crcFeed1 s = .next t ∧
      exec .crcFeed1 s' = .next t' :=
  ⟨State.reset, withInput .powerLoss, _, _, by decide, rfl, rfl, rfl⟩

theorem witness_RegistersChangeOnlyByTheirWriters :
    ∃ t, exec .typeFeed (withArgValue 0x52755374) = .next t ∧ t.block.crcState ≠ State.reset.block.crcState ∧
      t.block.typeReg ≠ State.reset.block.typeReg :=
  ⟨_, rfl, by decide +kernel, by decide +kernel⟩

/-- Clause 2 with NOP; clause 3 with a CLEAR_STATUS pending while CMD_ERR is 1. -/
theorem witness_CmdErrIsSticky :
    (Instr.nop ≠ .clearStatus ∧ (∀ w, Instr.nop ≠ .illegal w) ∧ ∃ t, exec .nop State.reset = .next t) ∧
    ∃ s t : State, s.block.status.cmdErr = true ∧ step s = .next t :=
  ⟨⟨by decide, fun _ h => (by cases h), _, rfl⟩,
    (withInput (.access (.write 32 9#32) 0x40)).setBlock { Block.reset with status := Status.ofWord 0x400 },
    _, by decide, rfl⟩

theorem witness_ReservedValidIsUppercase :
    isLetter 0x41 = true ∧ isLetter 0x7A = true ∧ classify 0x415A617A = .valid := by decide

/-- A digit at either end of its range, a zero byte, a byte with bit 7 set, at the first and the last index. -/
theorem witness_ValidTypeCodesCount :
    (byteN 0x30755374 4 0).toNat = 0x30 ∧ (byteN 0x52755339 4 3).toNat = 0x39 ∧
      byteN 0x52755300 4 3 = 0 ∧ (byteN 0x80755374 4 0).getLsbD 7 = true := by
  decide

theorem witness_TypeCheckValidatesArg :
    classify (withArgValue 0x52755374).block.arg = .valid ∧
      classify (withArgValue 0x5275537B).block.arg = .invalid 3 ∧
      (withArgValue 0x00000000).block.arg = 0x00000000 ∧ (withArgValue 0x5280FF00).block.arg = 0x5280FF00 := by
  decide

theorem witness_TypeFeedFeedsOnlyValidTypes :
    classify (withArgValue 0x52755374).block.arg = .valid ∧
      classify (withArgValue 0x31755374).block.arg = .invalid 0 ∧
      (classify (withBlock ⟨0x52755374, 0, 0xFFFFFFFC, 0, Status.reset⟩).block.arg = .valid ∧
        (withBlock ⟨0x52755374, 0, 0xFFFFFFFC, 0, Status.reset⟩).block.byteCount = 0xFFFFFFFC) ∧
      (withArgValue 0x52755374).block = { Block.reset with arg := 0x52755374 } := by
  decide

theorem witness_TypeReadsBackUnchanged : classify (withArgValue 0x7A615A41).block.arg = .valid := by decide

theorem witness_CrcFeed1AppendsOneByte :
    (withBlock { Block.reset with byteCount := 0xFFFFFFFF }).block.byteCount = 0xFFFFFFFF ∧
      (withArgValue 0xFFFFFF00).block.arg = 0xFFFFFF00 ∧
      ((withArgValue 0x61).block.crcState = 0xFFFFFFFF ∧ (withArgValue 0x61).block.byteCount = 0 ∧
        (withArgValue 0x61).block.arg = 0x00000061) := by
  decide

theorem witness_CrcFeed2AppendsTwoBytes :
    (withBlock { Block.reset with byteCount := 0xFFFFFFFE }).block.byteCount = 0xFFFFFFFE ∧
      ((withArgValue 0x102).block.crcState = 0xFFFFFFFF ∧ (withArgValue 0x102).block.byteCount = 0 ∧
        (withArgValue 0x102).block.arg = 0x00000102) := by
  decide

theorem witness_CrcFeed3AppendsThreeBytes :
    (withBlock { Block.reset with byteCount := 0xFFFFFFFD }).block.byteCount = 0xFFFFFFFD ∧
      State.reset.block.crcState = 0xFFFFFFFF ∧ State.reset.block.byteCount = 0 := by
  decide

theorem witness_CrcFeed4AppendsFourBytes :
    (withBlock { Block.reset with byteCount := 0xFFFFFFFC }).block.byteCount = 0xFFFFFFFC ∧
      ((withArgValue 0xFFFFFFFF).block.crcState = 0xFFFFFFFF ∧
        (withArgValue 0xFFFFFFFF).block.arg = 0xFFFFFFFF) ∧
      ((withArgValue 0x49454E44).block.byteCount = 0 ∧ (withArgValue 0x49454E44).block.arg = 0x49454E44) := by
  decide

theorem witness_CrcCheckComparesAllBits :
    State.reset.block.crcState ^^^ 0xFFFFFFFF = State.reset.block.arg ∧
      (withArgValue 1).block.crcState ^^^ 0xFFFFFFFF ≠ (withArgValue 1).block.arg ∧
      (State.reset.block.crcState = 0xFFFFFFFF ∧ State.reset.block.arg = 0x00000000) ∧
      (withBlock ⟨0xABD1D84E, 0x542E27B1, 46, 0, Status.reset⟩).block.arg = 0xABD1D84E ∧
      (withBlock ⟨0xABD1D84F, 0x542E27B1, 46, 0, Status.reset⟩).block.crcState = 0x542E27B1 := by
  decide

theorem witness_FlippedChecksumBitFails :
    ∃ (s t : State) (c : Word) (k : Nat), k < 32 ∧
      exec .crcCheck { s with block := { s.block with arg := c } } = .next t ∧
      t.block.status.crcMatch = true :=
  ⟨State.reset, _, 0, 31, by decide, rfl, by decide⟩

theorem witness_NopAloneHasNoEffect : (0x80000000 : Word) ≠ 0x00000000 := by decide

theorem witness_ClearStatusClearsErrorsOnly :
    (withBlock { Block.reset with status := Status.ofWord 0x0003060A }).block.status.toWord = 0x0003060A := by
  decide

theorem witness_IllegalWordRaisesCmdError :
    State.reset.block = Block.reset ∧
    ∃ s t : State, Instr.crcInit ≠ .clearStatus ∧ s.block.status.cmdErr = true ∧ exec .crcInit s = .next t :=
  ⟨rfl, withBlock { Block.reset with status := Status.ofWord 0x400 }, _, by decide, by decide, rfl⟩

theorem witness_ResetSetsEveryRegister : (withInput (.reset true)).inputs = .reset true :: [] := rfl

theorem witness_ReleasingResetKeepsTheBlock : (withInput (.reset false)).inputs = .reset false :: [] := rfl

theorem witness_AccessDuringResetIsRefused :
    ((withInput (.access (.read 32) 0x5F)).setResetLine true).resetLine = true ∧ (0x1F : Nat) < 32 ∧
      ((withInput (.access (.read 32) 0x5F)).setResetLine true).inputs =
        [.access (.read 32) (((withInput (.access (.read 32) 0x5F)).setResetLine true).base + 0x1F)] := by
  decide

theorem witness_AfterResetNothingFed : State.reset.block = Block.reset := rfl

theorem witness_ResetAfterPowerLoss :
    { State.reset with inputs := [.powerLoss, .reset true] }.inputs = .powerLoss :: .reset true :: [] := rfl

/-- Clause 1 with a TYPE_CHECK pending in a consistent block; clause 2 with reset pending in an inconsistent one. -/
theorem witness_StepKeepsConsistent :
    (∃ s t : State, s.block.Consistent ∧ s.inputs.head? ≠ some .powerLoss ∧ step s = .next t ∧ t ≠ s) ∧
    ∃ s t : State, ¬ s.block.Consistent ∧ s.inputs.head? = some (.reset true) ∧ step s = .next t := by
  refine ⟨⟨withInput (.access (.write 32 7#32) 0x40), _, ?_, by decide, rfl, by decide⟩, ?_⟩
  · constructor <;> decide
  · refine ⟨(withInput (.reset true)).setBlock { Block.reset with status := Status.ofWord 3 }, _, ?_, rfl, rfl⟩
    exact fun h => h.notBothType ⟨by decide, by decide⟩

theorem witness_ReachableStates :
    ∃ (ins : List HostInput) (t : State), HostInput.powerLoss ∉ ins ∧
      runSteps 2 { State.reset with inputs := ins, baseIndex := 1 } = .next t ∧ t.block ≠ Block.reset :=
  ⟨[.access (.write 32 0x61#32) 0x24, .access (.write 32 2#32) 0x20], _, by decide, rfl, by decide +kernel⟩

theorem witness_TypeIsZeroUnlessValid : State.reset.block.Consistent := by
  constructor <;> decide

theorem witness_StepKeepsStream :
    ∃ (s t : State) (m : List Byte), m ≠ [] ∧ s.block.HoldsStream m ∧ s.inputs.head? ≠ some .powerLoss ∧
      step s = .next t := by
  refine ⟨(withInput (.access (.write 32 2#32) 0x40)).setBlock ⟨0x62, 0x174841BC, 1, 0, Status.reset⟩, _, [0x61],
    by decide, ⟨?_, ?_, ?_⟩, by decide, rfl⟩ <;> decide +kernel

theorem witness_ChunkProcedures : classify 0x52755374 = .valid ∧ classify 0x52753174 = .invalid 2 := by decide

end Sys2Proof.Tests
end

/-! PROOF. The step services one access as one instruction (00_scope.md R6, 20_memory.md R51). -/

namespace Sys2Proof.Machine

/-- An access outside the window is rejected whatever else it is (R164). -/
theorem decode_outside {a : Access} (h : 32 ≤ a.off) : decode a = .error .outsideWindow := by
  simp [decode, Access.inWindow, Config.windowBytes, Nat.not_lt.mpr h]

/-- The decoder answers an instruction only for an access of the window. -/
theorem off_lt_of_decode_ok {a : Access} {i : Instr} (h : decode a = .ok i) : a.off < 32 := by
  by_contra hout
  rw [decode_outside (Nat.le_of_not_lt hout)] at h
  contradiction

/-- With reset released, an access of the window is handed on as the instruction it decodes to (R65, R181). -/
theorem State.fetchAccess_run {s : State} {op : BusOp} {off : Nat} {i : Instr}
    (hreset : s.resetLine = false) (hdec : decode ⟨op, off⟩ = .ok i) :
    s.fetchAccess op (s.base + off) = .run i s := by
  have hsel := s.select_base op (off_lt_of_decode_ok hdec)
  simp [State.fetchAccess, hsel, hreset, hdec]

/-- Settles O8: the input is fetched, selects its offset of the window, and runs as what it decodes to. -/
theorem stepRunsDecodedInstruction : Obligations.StepRunsDecodedInstruction := by
  intro s op off rest i hreset hinputs hdec
  have hfetch : s.fetch = .run i (s.setInputs rest) := by
    rw [State.fetch_access hinputs]
    exact State.fetchAccess_run (s := s.setInputs rest) hreset hdec
  exact step_run hfetch

end Sys2Proof.Machine

/-! PROOF. What each instruction does to the registers and answers, as functions of the registers (10_state.md R20, R45). -/

namespace Sys2Proof.Machine

/-! ### The shared operations, field by field -/

@[simp] theorem Block.feedBytes_arg (b : Block) (m : List Byte) : (b.feedBytes m).arg = b.arg := rfl
@[simp] theorem Block.feedBytes_crcState (b : Block) (m : List Byte) :
    (b.feedBytes m).crcState = feedAll b.crcState m := rfl
@[simp] theorem Block.feedBytes_typeReg (b : Block) (m : List Byte) :
    (b.feedBytes m).typeReg = b.typeReg := rfl
@[simp] theorem Block.feedBytes_status (b : Block) (m : List Byte) :
    (b.feedBytes m).status = b.status := rfl

/-- Feeding nothing changes nothing. -/
@[simp] theorem Block.feedBytes_nil (b : Block) : b.feedBytes [] = b := by
  simp [Block.feedBytes_eq]

theorem Block.acceptType_eq (b : Block) (v : Word) :
    b.acceptType v =
      { b with
        typeReg := v
        status :=
          { b.status with
            typeValid := true, typeErr := false, typeErrIdx := 0
            critical := critical v, publicBit := publicBit v
            reservedValid := reservedValid v, safeToCopy := safeToCopy v } } := rfl

theorem Block.clearErrors_eq (b : Block) :
    b.clearErrors =
      { b with
        status :=
          { b.status with
            typeErr := false, typeErrIdx := 0, crcErr := false, cmdErr := false, lastErr := 0 } } :=
  rfl

/-- A type check writes TYPE, the type fields of STATUS and LAST_ERR, and nothing else (R105, R161). -/
theorem Block.checkType_frame (b : Block) (v : Word) :
    (b.checkType v).arg = b.arg ∧ (b.checkType v).crcState = b.crcState ∧
      (b.checkType v).byteCount = b.byteCount ∧
      (b.checkType v).status.crcMatch = b.status.crcMatch ∧
      (b.checkType v).status.crcErr = b.status.crcErr ∧
      (b.checkType v).status.cmdErr = b.status.cmdErr := by
  rcases b.checkType_cases v with ⟨-, h⟩ | ⟨k, -, h⟩
  · simp [h, Block.acceptType_eq]
  · simp [h, Block.raise_type]

/-! ### Instructions -/

/-- The registers an instruction leaves. -/
def blockAfter (i : Instr) (b : Block) : Block :=
  match i with
  | .crcInit =>
    (b.setCrc Config.crcInit 0).setStatus { b.status with crcMatch := false, crcErr := false }
  | .crcFeed1 => b.feedBytes (argBytes b.arg 1)
  | .crcFeed2 => b.feedBytes (argBytes b.arg 2)
  | .crcFeed3 => b.feedBytes (argBytes b.arg 3)
  | .crcFeed4 => b.feedBytes (argBytes b.arg 4)
  | .crcCheck =>
    if b.crcResult = b.arg then b.setStatus { b.status with crcMatch := true, crcErr := false }
    else b.raise .crc
  | .typeCheck => b.checkType b.arg
  | .typeFeed =>
    match classify b.arg with
    | .valid => (b.checkType b.arg).feedBytes (argBytes b.arg 4)
    | .invalid _ => b.checkType b.arg
  | .clearStatus => b.clearErrors
  | .illegal _ => b.raise .cmd
  | .wArg v => b.setArg v
  | _ => b

/-- The response to an instruction. -/
def answer (i : Instr) (b : Block) : Response :=
  match i with
  | .rCmd | .rReserved => .data 0
  | .rArg => .data b.arg
  | .rStatus => .data b.status.toWord
  | .rCrcState => .data b.crcState
  | .rCrcResult => .data b.crcResult
  | .rByteCount => .data b.byteCount
  | .rType => .data b.typeReg
  | .busError _ => .busError
  | _ => .written

/-- Every instruction completes, and the registers alone decide what it leaves and answers (R45, R165). -/
theorem exec_eq (i : Instr) (s : State) :
    exec i s =
      .next { s with block := blockAfter i s.block, response := some (answer i s.block) } := by
  cases i with
  | typeFeed =>
    simp only [exec, execTypeFeed, blockAfter]
    cases classify s.block.arg <;> rfl
  | _ => rfl

/-- Everything an instruction can leave. -/
theorem exec_next {i : Instr} {s t : State} (h : exec i s = .next t) :
    t = { s with block := blockAfter i s.block, response := some (answer i s.block) } := by
  rw [exec_eq] at h
  injection h with h
  exact h.symm

theorem block_of_exec_next {i : Instr} {s t : State} (h : exec i s = .next t) :
    t.block = blockAfter i s.block := by
  rw [exec_next h]

/-- CRC_CHECK either finds the checksum or raises the CRC error (R131, R162). -/
theorem blockAfter_crcCheck_cases (b : Block) :
    (b.crcResult = b.arg ∧ blockAfter .crcCheck b =
        b.setStatus { b.status with crcMatch := true, crcErr := false }) ∨
      (b.crcResult ≠ b.arg ∧ blockAfter .crcCheck b = b.raise .crc) := by
  by_cases h : b.crcResult = b.arg
  · exact .inl ⟨h, if_pos h⟩
  · exact .inr ⟨h, if_neg h⟩

/-- TYPE_FEED is TYPE_CHECK and then a feed, of nothing where the code is invalid (R106). -/
theorem blockAfter_typeFeed (b : Block) :
    ∃ m, blockAfter .typeFeed b = (b.checkType b.arg).feedBytes m := by
  simp only [blockAfter]
  cases classify b.arg with
  | valid => exact ⟨argBytes b.arg 4, rfl⟩
  | invalid k => exact ⟨[], (Block.feedBytes_nil _).symm⟩

/-- Only a write of ARG changes ARG (R22). -/
theorem blockAfter_arg {i : Instr} (h : ∀ v, i ≠ .wArg v) (b : Block) :
    (blockAfter i b).arg = b.arg := by
  cases i with
  | wArg v => exact absurd rfl (h v)
  | crcCheck =>
    rcases blockAfter_crcCheck_cases b with ⟨-, he⟩ | ⟨-, he⟩ <;> rw [he] <;> rfl
  | typeCheck => simp [blockAfter, Block.checkType_frame]
  | typeFeed =>
    obtain ⟨m, he⟩ := blockAfter_typeFeed b
    simp [he, Block.checkType_frame]
  | _ => rfl

/-- Only an illegal word and CLEAR_STATUS change CMD_ERR (R37). -/
theorem blockAfter_cmdErr {i : Instr} (hclear : i ≠ .clearStatus) (hillegal : ∀ w, i ≠ .illegal w)
    (b : Block) : (blockAfter i b).status.cmdErr = b.status.cmdErr := by
  cases i with
  | clearStatus => exact absurd rfl hclear
  | illegal w => exact absurd rfl (hillegal w)
  | crcCheck =>
    rcases blockAfter_crcCheck_cases b with ⟨-, he⟩ | ⟨-, he⟩ <;> rw [he] <;> rfl
  | typeCheck => simp [blockAfter, Block.checkType_frame]
  | typeFeed =>
    obtain ⟨m, he⟩ := blockAfter_typeFeed b
    simp [he, Block.checkType_frame]
  | _ => rfl

/-- LAST_ERR is cleared by CLEAR_STATUS, takes the code of the error raised, or else stays (R38, R160). -/
theorem blockAfter_lastErr (i : Instr) (b : Block) :
    (blockAfter i b).status.lastErr =
      if i = .clearStatus then 0 else (raisedCode i b).getD b.status.lastErr := by
  cases i with
  | crcCheck =>
    rcases blockAfter_crcCheck_cases b with ⟨h, he⟩ | ⟨h, he⟩
    · have hcode : raisedCode .crcCheck b = none := if_pos h
      simp [he, hcode]
    · have hcode : raisedCode .crcCheck b = some 2 := if_neg h
      simp [he, hcode, Block.raise_crc]
  | typeCheck | typeFeed =>
    rcases b.checkType_cases b.arg with ⟨hc, he⟩ | ⟨k, hc, he⟩
    · simp [blockAfter, he, raisedCode, hc, Block.acceptType_eq]
    · simp [blockAfter, he, raisedCode, hc, Block.raise_type]
  | _ => rfl

end Sys2Proof.Machine

/-! PROOF. What a step can do, and inductions over runs (00_scope.md R6). -/

namespace Sys2Proof.Machine

@[simp] theorem State.losePower_inputs (s : State) : s.losePower.inputs = s.inputs := by
  unfold State.losePower
  split <;> rfl

/-- Everything a step can do: without an input nothing; else it takes the next input, and the registers stay, are replaced by reset or a loss of power, or are what the instruction of an access leaves. -/
theorem step_cases {s t : State} (h : step s = .next t) :
    (s.inputs = [] ∧ t = s) ∨
      ∃ input, s.inputs = input :: t.inputs ∧
        (t.block = s.block ∨ (input = .reset true ∧ t.block = Block.reset) ∨
          input = .powerLoss ∨
          ∃ a i, input = s.inputOf a ∧ decode a = .ok i ∧ t.block = blockAfter i s.block) := by
  cases hin : s.inputs with
  | nil =>
    rw [step_done (State.fetch_nil hin)] at h
    cases h
    exact .inl ⟨rfl, rfl⟩
  | cons input rest =>
    refine .inr ⟨input, ?_⟩
    cases input with
    | powerLoss =>
      rw [step_done (State.fetch_powerLoss hin)] at h
      cases h
      exact ⟨by simp, .inr (.inr (.inl rfl))⟩
    | reset applied =>
      cases applied with
      | true =>
        rw [step_done (State.fetch_reset hin)] at h
        cases h
        exact ⟨rfl, .inr (.inl ⟨rfl, rfl⟩)⟩
      | false =>
        rw [step_done (State.fetch_release hin)] at h
        cases h
        exact ⟨rfl, .inl rfl⟩
    | access op addr =>
      have hfetch := State.fetch_access hin
      rcases (s.setInputs rest).fetchAccess_cases op addr with
        ⟨-, he⟩ | ⟨a, -, -, he⟩ | ⟨a, i, hsel, -, hdec, he⟩ | ⟨a, -, -, -, he⟩
      · rw [step_done (hfetch.trans he)] at h
        cases h
        exact ⟨rfl, .inl rfl⟩
      · rw [step_stop (hfetch.trans he)] at h
        cases h
      · rw [step_run (hfetch.trans he)] at h
        obtain ⟨rfl, rfl, -⟩ := State.select_some hsel
        cases exec_next h
        exact ⟨rfl, .inr (.inr (.inr ⟨a, i, rfl, hdec, rfl⟩))⟩
      · rw [step_stuck (hfetch.trans he)] at h
        cases h

/-- What every step keeps, a run keeps. -/
theorem runSteps_keeps {P : State → Prop} (hstep : ∀ s t, P s → step s = .next t → P t) {k : Nat}
    {s t : State} (hs : P s) (h : runSteps k s = .next t) : P t := by
  induction k generalizing s with
  | zero =>
    rw [runSteps_zero] at h
    cases h
    exact hs
  | succ k ih =>
    cases hone : step s with
    | next u =>
      rw [runSteps_next hone] at h
      exact ih (hstep s u hs hone) h
    | fault r =>
      rw [runSteps_fault hone] at h
      cases h
    | refused r =>
      rw [runSteps_refused hone] at h
      cases h

end Sys2Proof.Machine

/-! PROOF. The invariants of 10_state.md R46. -/

namespace Sys2Proof.Machine

/-- The loop of Classify passes exactly when the bytes it looks at are letters (R101). -/
theorem classifyFrom_valid_iff (v : Word) (l : List (BitVec 2)) :
    classifyFrom v l = .valid ↔ ∀ i ∈ l, isLetter (byteN v 4 i.toNat) = true := by
  induction l with
  | nil => simp [classifyFrom]
  | cons i rest ih =>
    cases hi : isLetter (byteN v 4 i.toNat) <;> simp [classifyFrom, hi, ih]

/-- Classify accepts exactly the words whose four bytes are letters (R101). -/
theorem classify_valid_iff (v : Word) :
    classify v = .valid ↔ ∀ i < 4, isLetter (byteN v 4 i) = true := by
  rw [classify, classifyFrom_valid_iff]
  constructor
  · intro h i hi
    simpa [Nat.mod_eq_of_lt hi] using h (BitVec.ofNat 2 i) (by interval_cases i <;> decide)
  · exact fun h i _ => h i.toNat i.isLt

theorem Block.reset_consistent : Block.reset.Consistent := by
  constructor <;> decide

/-- The invariants speak of TYPE and STATUS only. -/
theorem Block.Consistent.congr {b b' : Block} (h : b.Consistent) (htype : b'.typeReg = b.typeReg)
    (hstatus : b'.status = b.status) : b'.Consistent := by
  obtain ⟨arg, crcState, byteCount, typeReg, status⟩ := b'
  cases htype
  cases hstatus
  exact { h with }

theorem Block.Consistent.setCrcMatch {b : Block} (h : b.Consistent) (m : Bool) :
    (b.setStatus { b.status with crcMatch := m, crcErr := false }).Consistent :=
  { h with
    notBothCrc := by simp
    noCodeNoError := fun hcode =>
      have ⟨htype, _, hcmd⟩ := h.noCodeNoError hcode
      ⟨htype, rfl, hcmd⟩ }

/-- Raising an error records its code, which is not 0 (R160 to R163). -/
theorem Block.Consistent.raise {b : Block} (h : b.Consistent) (e : CmdError) :
    (b.raise e).Consistent := by
  cases e with
  | type k =>
    exact { h with
      notBothType := by simp [Block.raise_type]
      validLetters := by simp [Block.raise_type]
      invalidZero := fun _ => rfl
      invalidNoProperty := fun _ => ⟨rfl, rfl, rfl, rfl⟩
      noErrNoIndex := by simp [Block.raise_type]
      lastErrCode := .inr (.inl rfl)
      noCodeNoError := by simp [Block.raise_type] }
  | crc =>
    exact { h with
      notBothCrc := by simp [Block.raise_crc]
      lastErrCode := .inr (.inr (.inl rfl))
      noCodeNoError := by simp [Block.raise_crc] }
  | cmd =>
    exact { h with
      lastErrCode := .inr (.inr (.inr rfl))
      noCodeNoError := by simp [Block.raise_cmd] }

theorem Block.Consistent.clearErrors {b : Block} (h : b.Consistent) : b.clearErrors.Consistent :=
  { h with
    notBothType := by simp [Block.clearErrors_eq]
    noErrNoIndex := fun _ => rfl
    notBothCrc := by simp [Block.clearErrors_eq]
    lastErrCode := .inl rfl
    noCodeNoError := fun _ => ⟨rfl, rfl, rfl⟩ }

/-- An accepted code has four letters (R105). -/
theorem Block.Consistent.acceptType {b : Block} (h : b.Consistent) {v : Word}
    (hv : classify v = .valid) : (b.acceptType v).Consistent :=
  { h with
    notBothType := by simp [Block.acceptType_eq]
    validLetters := fun _ => (classify_valid_iff v).mp hv
    invalidZero := by simp [Block.acceptType_eq]
    invalidNoProperty := by simp [Block.acceptType_eq]
    noErrNoIndex := fun _ => rfl
    noCodeNoError := fun hcode =>
      have ⟨_, hcrc, hcmd⟩ := h.noCodeNoError hcode
      ⟨rfl, hcrc, hcmd⟩ }

theorem Block.Consistent.checkType {b : Block} (h : b.Consistent) (v : Word) :
    (b.checkType v).Consistent := by
  rcases b.checkType_cases v with ⟨hv, he⟩ | ⟨k, -, he⟩
  · exact he ▸ h.acceptType hv
  · exact he ▸ h.raise (.type k)

theorem Block.Consistent.feedBytes {b : Block} (h : b.Consistent) (m : List Byte) :
    (b.feedBytes m).Consistent :=
  h.congr rfl rfl

/-- Every instruction keeps the invariants of R46. -/
theorem Block.Consistent.blockAfter {b : Block} (h : b.Consistent) (i : Instr) :
    (blockAfter i b).Consistent := by
  cases i with
  | wArg v => exact h.congr rfl rfl
  | crcInit => exact (h.setCrcMatch false).congr rfl rfl
  | crcFeed1 | crcFeed2 | crcFeed3 | crcFeed4 => exact h.feedBytes _
  | crcCheck =>
    rcases blockAfter_crcCheck_cases b with ⟨-, he⟩ | ⟨-, he⟩
    · exact he ▸ h.setCrcMatch true
    · exact he ▸ h.raise .crc
  | typeCheck => exact h.checkType b.arg
  | typeFeed =>
    obtain ⟨m, he⟩ := blockAfter_typeFeed b
    exact he ▸ (h.checkType b.arg).feedBytes m
  | clearStatus => exact h.clearErrors
  | illegal w => exact h.raise .cmd
  | _ => exact h

/-- Every step but a loss of power keeps the invariants of R46. -/
theorem step_consistent {s t : State} (h : s.block.Consistent)
    (hpower : s.inputs.head? ≠ some .powerLoss) (hstep : step s = .next t) :
    t.block.Consistent := by
  rcases step_cases hstep with
    ⟨-, rfl⟩ | ⟨input, hin, he | ⟨-, he⟩ | rfl | ⟨a, i, -, -, he⟩⟩
  · exact h
  · exact he ▸ h
  · exact he ▸ Block.reset_consistent
  · exact absurd (by rw [hin]; rfl) hpower
  · exact he ▸ h.blockAfter i

/-- A step on an applied reset gives the registers their reset values (R180). -/
theorem step_reset_block {s t : State} (hin : s.inputs.head? = some (.reset true))
    (hstep : step s = .next t) : t.block = Block.reset := by
  obtain ⟨rest, hin⟩ := List.head?_eq_some_iff.mp hin
  rw [step_done (State.fetch_reset hin)] at hstep
  cases hstep
  rfl

/-- Settles O53: the operations of every instruction keep the invariants, and reset meets them. -/
theorem stepKeepsConsistent : Obligations.StepKeepsConsistent :=
  ⟨fun _ _ h hpower hstep => step_consistent h hpower hstep,
    fun _ _ hin hstep => step_reset_block hin hstep ▸ Block.reset_consistent⟩

end Sys2Proof.Machine

/-! PROOF. The layout of STATUS (10_state.md R27, R39). -/

namespace Sys2Proof.Machine

/-- A bit of STATUS is a bit of its fields laid side by side. -/
theorem Status.getLsbD_toWord (st : Status) (i : Nat) :
    st.toWord.getLsbD i =
      (0#12 ++ st.lastErr ++ 0#5 ++ BitVec.ofBool st.cmdErr ++ BitVec.ofBool st.crcErr
        ++ BitVec.ofBool st.crcMatch ++ BitVec.ofBool st.safeToCopy
        ++ BitVec.ofBool st.reservedValid ++ BitVec.ofBool st.publicBit
        ++ BitVec.ofBool st.critical ++ st.typeErrIdx ++ BitVec.ofBool st.typeErr
        ++ BitVec.ofBool st.typeValid).getLsbD i := rfl

theorem Status.toWord_flags (st : Status) :
    st.toWord.getLsbD 0 = st.typeValid ∧ st.toWord.getLsbD 1 = st.typeErr ∧
      st.toWord.getLsbD 4 = st.critical ∧ st.toWord.getLsbD 5 = st.publicBit ∧
      st.toWord.getLsbD 6 = st.reservedValid ∧ st.toWord.getLsbD 7 = st.safeToCopy ∧
      st.toWord.getLsbD 8 = st.crcMatch ∧ st.toWord.getLsbD 9 = st.crcErr ∧
      st.toWord.getLsbD 10 = st.cmdErr := by
  simp only [Status.getLsbD_toWord, BitVec.getLsbD_append]
  simp

theorem Status.toWord_typeErrIdx (st : Status) : st.toWord.extractLsb' 2 2 = st.typeErrIdx := by
  ext i hi
  simp only [BitVec.getElem_extractLsb', Status.getLsbD_toWord, BitVec.getLsbD_append]
  interval_cases i <;> simp

theorem Status.toWord_lastErr (st : Status) : st.toWord.extractLsb' 16 4 = st.lastErr := by
  ext i hi
  simp only [BitVec.getElem_extractLsb', Status.getLsbD_toWord, BitVec.getLsbD_append]
  interval_cases i <;> simp

/-- Bits 15:11 read as 0 (R39). -/
theorem Status.toWord_reserved_low (st : Status) : st.toWord.extractLsb' 11 5 = 0 := by
  ext i hi
  simp only [BitVec.getElem_extractLsb', Status.getLsbD_toWord, BitVec.getLsbD_append]
  interval_cases i <;> simp

/-- Bits 31:20 read as 0 (R39). -/
theorem Status.toWord_reserved_high (st : Status) : st.toWord.extractLsb' 20 12 = 0 := by
  ext i hi
  simp only [BitVec.getElem_extractLsb', Status.getLsbD_toWord, BitVec.getLsbD_append]
  interval_cases i <;> simp

/-- Settles O20: each field is the piece of the concatenation that its bits select. -/
theorem statusLayout : Obligations.StatusLayout := by
  intro st
  obtain ⟨h0, h1, h4, h5, h6, h7, h8, h9, h10⟩ := st.toWord_flags
  exact ⟨h0, h1, st.toWord_typeErrIdx, h4, h5, h6, h7, h8, h9, h10, st.toWord_reserved_low,
    st.toWord_lastErr, st.toWord_reserved_high⟩

end Sys2Proof.Machine

/-! PROOF. The registers at reset, along runs, and after each instruction (10_state.md R22 to R46). -/

namespace Sys2Proof.Machine

/-- Settles O52: at reset every field of STATUS and TYPE is 0. -/
theorem consistentAtReset : Obligations.ConsistentAtReset :=
  Block.reset_consistent

/-- A state whose registers meet R46 and to which no loss of power is still to come. -/
def State.ConsistentWithPower (s : State) : Prop :=
  s.block.Consistent ∧ .powerLoss ∉ s.inputs

theorem step_consistentWithPower (s t : State) (h : s.ConsistentWithPower)
    (hstep : step s = .next t) : t.ConsistentWithPower := by
  obtain ⟨hcons, hpower⟩ := h
  have hhead : s.inputs.head? ≠ some .powerLoss := fun hin =>
    hpower (List.mem_of_head? hin)
  refine ⟨step_consistent hcons hhead hstep, ?_⟩
  rcases step_cases hstep with ⟨-, rfl⟩ | ⟨input, hin, -⟩
  · exact hpower
  · rw [hin] at hpower
    exact fun hmem => hpower (List.mem_cons_of_mem _ hmem)

/-- Settles O54, by induction on the run: the invariants hold at reset and every step keeps them. -/
theorem reachableStatesAreConsistent : Obligations.ReachableStatesAreConsistent := by
  intro ins base k t hpower hrun
  obtain ⟨hcons, -⟩ :=
    runSteps_keeps step_consistentWithPower ⟨Block.reset_consistent, hpower⟩ hrun
  exact ⟨hcons, t.block.status.toWord_reserved_low, t.block.status.toWord_reserved_high⟩

/-- Settles O55: R46(b) in both directions, since the byte 0 is no letter. -/
theorem typeIsZeroUnlessValid : Obligations.TypeIsZeroUnlessValid := by
  refine ⟨by decide, fun b h => ⟨fun hne => ?_, fun hvalid hzero => ?_⟩⟩
  · by_contra hinvalid
    exact hne (h.invalidZero (Bool.eq_false_of_not_eq_true hinvalid))
  · have hletter := h.validLetters hvalid 0 (by decide)
    rw [hzero] at hletter
    exact absurd hletter (by decide)

/-- Settles O12: each read is a read of its register. -/
theorem readsAnswerTheRegister : Obligations.ReadsAnswerTheRegister := fun s =>
  ⟨s.readData_eq _, s.readData_eq _, s.readData_eq _, s.readData_eq _, s.readData_eq _,
    s.readData_eq _, s.readData_eq _, s.readData_eq _⟩

/-- Settles O14: both accesses decode, and every other instruction keeps ARG. -/
theorem argIsWrittenByTheHostOnly : Obligations.ArgIsWrittenByTheHostOnly := by
  refine ⟨decode_read32 (by decide) (by decide), fun v => ?_, fun s v => exec_eq (.wArg v) s,
    fun s => exec_eq .rArg s, fun i s t hother hexec => ?_, rfl⟩
  · exact decode_write32 v (by decide) (by decide)
  · rw [block_of_exec_next hexec, blockAfter_arg hother]

/-- Settles O18: what an instruction leaves and answers is a function of the registers. -/
theorem noHiddenState : Obligations.NoHiddenState := by
  intro i s s' t t' hblock hexec hexec'
  rw [exec_next hexec, exec_next hexec', hblock]
  exact ⟨rfl, rfl⟩

/-- Settles O22: every instruction completes, and LAST_ERR follows the error it raises. -/
theorem lastErrHoldsTheLatestCode : Obligations.LastErrHoldsTheLatestCode := fun i s =>
  ⟨_, exec_eq i s, blockAfter_lastErr i s.block⟩

/-- Settles O19: the operation of each instruction writes no register or field but those whose column lists it. -/
theorem registersChangeOnlyByTheirWriters : Obligations.RegistersChangeOnlyByTheirWriters := by
  intro i s t hexec
  rw [block_of_exec_next hexec]
  generalize s.block = b
  cases i with
  | crcCheck =>
    rcases blockAfter_crcCheck_cases b with ⟨-, he⟩ | ⟨-, he⟩
    · simp [he]
    · simp [he, Block.raise_crc]
  | typeCheck => simp [blockAfter, Block.checkType_frame]
  | typeFeed =>
    obtain ⟨m, he⟩ := blockAfter_typeFeed b
    simp [he, Block.checkType_frame]
  | clearStatus => simp [blockAfter, Block.clearErrors_eq]
  | illegal w => simp [blockAfter, Block.raise_cmd]
  | _ => simp [blockAfter]

end Sys2Proof.Machine

/-! PROOF. Decoding answers the instruction whose access it was given (30_encoding.md R70 to R77). -/

namespace Sys2Proof

/-- A command word is its RSV field over its OPC field (R75). -/
theorem word_eq_of_fields {w : Word} {n : Nat} (hrsv : w.extractLsb' 8 24 = 0)
    (hopc : (w.extractLsb' 0 8).toNat = n) : w = BitVec.ofNat 32 n := by
  have h0 : w.toNat / 2 ^ 8 % 2 ^ 24 = 0 := by
    simpa [Nat.shiftRight_eq_div_pow] using congrArg BitVec.toNat hrsv
  have h1 : w.toNat % 2 ^ 8 = n := by simpa using hopc
  apply BitVec.eq_of_toNat_eq
  rw [BitVec.toNat_ofNat]
  omega

theorem encode_decodeCmd (w : Word) : encode (decodeCmd w) = write32 0x00 w := by
  unfold decodeCmd
  split
  · rfl
  next hrsv =>
    split
    case h_11 => rfl
    all_goals
      next hopc => exact congrArg (write32 0x00) (word_eq_of_fields (not_not.mp hrsv) hopc).symm

theorem encode_of_decodeRead {off : Nat} {i : Instr} (h : decodeRead off = .ok i) :
    encode i = read32 off := by
  unfold decodeRead at h
  split at h <;> cases h <;> rfl

theorem encode_of_decodeWrite {off : Nat} {v : Word} {i : Instr} (h : decodeWrite off v = .ok i) :
    encode i = write32 off v := by
  unfold decodeWrite at h
  split at h
  case h_1 =>
    cases h
    exact encode_decodeCmd v
  all_goals cases h <;> rfl

/-- An access decodes to no other instruction than the one it is the access of (R76). -/
theorem encode_of_decode {a : Access} {i : Instr} (h : decode a = .ok i) : encode i = a := by
  have hoff := Machine.off_lt_of_decode_ok h
  cases hm : a.malformed with
  | true =>
    rw [Machine.decode_malformed hoff hm] at h
    cases h
    rfl
  | false =>
    obtain ⟨op, off⟩ := a
    simp only [Access.malformed, Bool.or_eq_false_iff, bne_eq_false_iff_eq] at hm
    obtain ⟨hwidth, halign⟩ := hm
    cases op with
    | read w =>
      cases hwidth
      exact encode_of_decodeRead ((Machine.decode_read32 hoff halign).symm.trans h)
    | write w v =>
      cases hwidth
      exact encode_of_decodeWrite ((Machine.decode_write32 v hoff halign).symm.trans h)

end Sys2Proof

namespace Sys2Proof.Machine

/-- Settles O21: a step that clears CMD_ERR ran CLEAR_STATUS, whose one access is the write of its opcode. -/
theorem cmdErrIsSticky : Obligations.CmdErrIsSticky := by
  refine ⟨fun w s => ⟨_, exec_eq (.illegal w) s, rfl⟩, fun i s t hclear hillegal hexec => ?_,
    fun s t hset hstep => ?_, rfl⟩
  · rw [block_of_exec_next hexec, blockAfter_cmdErr hclear hillegal]
  · rcases step_cases hstep with
      ⟨-, rfl⟩ | ⟨input, hin, he | ⟨rfl, -⟩ | rfl | ⟨a, i, rfl, hdec, he⟩⟩
    · exact .inl hset
    · exact .inl (he ▸ hset)
    · exact .inr (.inr (.inl (by rw [hin]; rfl)))
    · exact .inr (.inr (.inr (by rw [hin]; rfl)))
    · cases i with
      | clearStatus =>
        cases encode_of_decode hdec
        exact .inr (.inl (by rw [hin]; rfl))
      | illegal w => exact .inl (by rw [he]; rfl)
      | _ =>
        refine .inl ?_
        rw [he, blockAfter_cmdErr Instr.noConfusion (fun _ => Instr.noConfusion)]
        exact hset

end Sys2Proof.Machine

/-! PROOF. The CRC update is linear over xor, and four bytes lead from any CRC_STATE to any other (41_crc.md R121, R130). -/

namespace Sys2Proof.Machine

theorem feedBit_of_even {x : Word} (h : x.getLsbD 0 = false) : feedBit x = x >>> 1 := by
  simp only [feedBit, h, Bool.false_eq_true, if_false]

theorem feedBit_of_odd {x : Word} (h : x.getLsbD 0 = true) :
    feedBit x = (x >>> 1) ^^^ Config.crcPoly := by
  simp only [feedBit, h, if_true]

/-- A turn of the loop is linear over xor. -/
theorem feedBit_xor (x y : Word) : feedBit (x ^^^ y) = feedBit x ^^^ feedBit y := by
  have hbit : (x ^^^ y).getLsbD 0 = (x.getLsbD 0 ^^ y.getLsbD 0) := BitVec.getLsbD_xor
  cases hx : x.getLsbD 0 <;> cases hy : y.getLsbD 0 <;> rw [hx, hy] at hbit
  · rw [feedBit_of_even hx, feedBit_of_even hy, feedBit_of_even hbit,
      BitVec.ushiftRight_xor_distrib]
  · rw [feedBit_of_even hx, feedBit_of_odd hy, feedBit_of_odd hbit,
      BitVec.ushiftRight_xor_distrib, BitVec.xor_assoc]
  · rw [feedBit_of_odd hx, feedBit_of_even hy, feedBit_of_odd hbit,
      BitVec.ushiftRight_xor_distrib]
    ac_rfl
  · rw [feedBit_of_odd hx, feedBit_of_odd hy, feedBit_of_even hbit,
      BitVec.ushiftRight_xor_distrib]
    have : (x >>> 1 ^^^ Config.crcPoly) ^^^ (y >>> 1 ^^^ Config.crcPoly) =
        (x >>> 1 ^^^ y >>> 1) ^^^ (Config.crcPoly ^^^ Config.crcPoly) := by ac_rfl
    rw [this, BitVec.xor_self, BitVec.xor_zero]

theorem feedBits_xor (n : Nat) (x y : Word) :
    feedBits n (x ^^^ y) = feedBits n x ^^^ feedBits n y := by
  induction n generalizing x y with
  | zero => rfl
  | succ n ih => rw [feedBits, feedBit_xor, ih]; rfl

theorem feedBits_add (m n : Nat) (x : Word) : feedBits (m + n) x = feedBits n (feedBits m x) := by
  induction m generalizing x with
  | zero => rw [Nat.zero_add]; rfl
  | succ m ih => rw [Nat.succ_add]; exact ih (feedBit x)

/-- While the bits that reach the low end are 0, the loop only shifts. -/
theorem feedBits_of_low_zero {n : Nat} {x : Word} (h : ∀ i < n, x.getLsbD i = false) :
    feedBits n x = x >>> n := by
  induction n generalizing x with
  | zero => exact (BitVec.ushiftRight_zero x).symm
  | succ n ih =>
    have hlow : ∀ i < n, (x >>> 1).getLsbD i = false := fun i hi => by
      rw [BitVec.getLsbD_ushiftRight, Nat.add_comm]
      exact h (i + 1) (by omega)
    rw [feedBits, feedBit_of_even (h 0 (by omega)), ih hlow, ← BitVec.shiftRight_add,
      Nat.add_comm 1 n]

/-- Eight turns take in the low byte of a word and shift the rest of it down. -/
theorem feedBits_eight_xor (s w : Word) :
    feedBits 8 (s ^^^ w) = feed s (w.extractLsb' 0 8) ^^^ w >>> 8 := by
  have hsplit : w = (w.extractLsb' 0 8).setWidth 32 ^^^ (w >>> 8) <<< 8 := by
    ext i hi
    by_cases h8 : i < 8
    · simp [h8, BitVec.getLsbD_eq_getElem hi]
    · simp [h8, hi, Nat.add_sub_cancel' (Nat.le_of_not_lt h8)]
  have hrest : feedBits 8 ((w >>> 8) <<< 8) = w >>> 8 := by
    rw [feedBits_of_low_zero (fun i hi => by simp [hi])]
    ext i hi
    simpa using BitVec.lt_of_getLsbD
  rw [feed, ← hrest, ← feedBits_xor, BitVec.xor_assoc, ← hsplit]

/-- A turn of the loop undone: the top bit tells whether the polynomial was added. -/
def unfeedBit (t : Word) : Word :=
  if t.getLsbD 31 then ((t ^^^ Config.crcPoly) <<< 1) ||| 1 else t <<< 1

/-- A shift up loses nothing of a word whose top bit is 0. -/
theorem shiftLeft_one_ushiftRight_one {x : Word} (h : x.getLsbD 31 = false) :
    (x <<< 1) >>> 1 = x := by
  ext i hi
  rcases Nat.lt_or_ge i 31 with hlt | hge
  · simp [show 1 + i < 32 by omega]
  · obtain rfl : i = 31 := by omega
    simpa using h.symm

theorem feedBit_unfeedBit (t : Word) : feedBit (unfeedBit t) = t := by
  cases h : t.getLsbD 31 with
  | true =>
    have htop : (t ^^^ Config.crcPoly).getLsbD 31 = false := by
      rw [BitVec.getLsbD_xor, h]
      decide
    rw [unfeedBit, if_pos h, feedBit_of_odd (by simp), BitVec.ushiftRight_or_distrib,
      shiftLeft_one_ushiftRight_one htop, show (1 : Word) >>> 1 = 0#32 by decide, BitVec.or_zero,
      BitVec.xor_assoc, BitVec.xor_self, BitVec.xor_zero]
  | false =>
    rw [unfeedBit, if_neg (Bool.eq_false_iff.mp h), feedBit_of_even (by simp),
      shiftLeft_one_ushiftRight_one h]

theorem feedBits_surjective (n : Nat) : Function.Surjective (feedBits n) := by
  induction n with
  | zero => exact Function.surjective_id
  | succ n ih => exact ih.comp (fun t => ⟨unfeedBit t, feedBit_unfeedBit t⟩)

theorem argBytes_append (b0 b1 b2 b3 : Byte) :
    argBytes (b0 ++ b1 ++ b2 ++ b3) 4 = [b0, b1, b2, b3] := by
  have hbit (i : Nat) : BitVec.getLsbD (w := 32) (b0 ++ b1 ++ b2 ++ b3) i =
      (b0 ++ b1 ++ b2 ++ b3).getLsbD i := rfl
  simp only [argBytes_four, List.cons.injEq, and_true]
  refine ⟨?_, ?_, ?_, ?_⟩
  all_goals
    ext i hi
    simp only [BitVec.getElem_extractLsb', hbit, BitVec.getLsbD_append]
    interval_cases i <;> rfl

/-- Four bytes lead from any CRC_STATE to any other. -/
theorem exists_feedAll_argBytes (s c : Word) : ∃ v, feedAll s (argBytes v 4) = c := by
  obtain ⟨u, rfl⟩ := feedBits_surjective (8 + (8 + (8 + 8))) c
  have hu : u = s ^^^ (s ^^^ u) := by rw [← BitVec.xor_assoc, BitVec.xor_self, BitVec.zero_xor]
  generalize s ^^^ u = w at hu
  refine ⟨w.extractLsb' 0 8 ++ (w >>> 8).extractLsb' 0 8 ++ (w >>> 8 >>> 8).extractLsb' 0 8 ++
    (w >>> 8 >>> 8 >>> 8).extractLsb' 0 8, ?_⟩
  have hout : w >>> 8 >>> 8 >>> 8 >>> 8 = 0 := by
    rw [← BitVec.shiftRight_add, ← BitVec.shiftRight_add, ← BitVec.shiftRight_add]
    exact BitVec.ushiftRight_eq_zero (by decide)
  rw [argBytes_append, hu, feedBits_add, feedBits_add, feedBits_add]
  simp only [feedBits_eight_xor, hout, feedAll_cons, feedAll_nil]
  exact BitVec.xor_zero.symm

end Sys2Proof.Machine

/-! PROOF. The host's lines run one instruction each (30_encoding.md R80), so that a choice of lines is a choice of registers (10_state.md R24). -/

namespace Sys2Proof.Machine

/-- The instruction a line stands for (R80). -/
def HostLine.instr : HostLine → Instr
  | .write .cmd v => decodeCmd v
  | .write .arg v => .wArg v
  | .write .status v => .wStatus v
  | .write .crcState v => .wCrcState v
  | .write .crcResult v => .wCrcResult v
  | .write .byteCount v => .wByteCount v
  | .write .type v => .wType v
  | .read .cmd => .rCmd
  | .read .arg => .rArg
  | .read .status => .rStatus
  | .read .crcState => .rCrcState
  | .read .crcResult => .rCrcResult
  | .read .byteCount => .rByteCount
  | .read .type => .rType

/-- Every register lies at an aligned offset of the window (R21). -/
theorem Reg.off_aligned (reg : Reg) : reg.off < 32 ∧ reg.off % 4 = 0 := by
  cases reg <;> decide

theorem decode_line (l : HostLine) : decode l.access = .ok l.instr := by
  cases l with
  | write reg v =>
    obtain ⟨hoff, halign⟩ := reg.off_aligned
    rw [HostLine.access, decode_write32 v hoff halign]
    cases reg <;> rfl
  | read reg =>
    obtain ⟨hoff, halign⟩ := reg.off_aligned
    rw [HostLine.access, decode_read32 hoff halign]
    cases reg <;> rfl

/-- A step takes the first line and leaves what its instruction leaves. -/
theorem step_withLines (s : State) (l : HostLine) (ls : List HostLine) :
    ∃ t : State, step (s.withLines (l :: ls)) = .next (t.withLines ls) ∧
      t.block = blockAfter l.instr s.block := by
  have hstep := stepRunsDecodedInstruction (s.withLines (l :: ls)) l.access.op l.access.off
    (s.linesToInputs ls) l.instr rfl rfl (decode_line l)
  rw [exec_eq] at hstep
  exact ⟨{ s with block := blockAfter l.instr s.block,
                  response := some (answer l.instr s.block) }, hstep, rfl⟩

/-- Running the host's lines is running their instructions in order (R60, R80). -/
theorem runSteps_withLines (s : State) (ls : List HostLine) :
    ∃ t, runSteps ls.length (s.withLines ls) = .next t ∧ t.inputs = [] ∧
      t.block = ls.foldl (fun b l => blockAfter l.instr b) s.block := by
  induction ls generalizing s with
  | nil => exact ⟨_, rfl, rfl, rfl⟩
  | cons l ls ih =>
    obtain ⟨u, hstep, hblock⟩ := step_withLines s l ls
    obtain ⟨t, hrun, hin, hfold⟩ := ih u
    exact ⟨t, (runSteps_next hstep _).trans hrun, hin, by rw [hfold, hblock]; rfl⟩

/-- Settles O36: the host writes the right four bytes to ARG and feeds them. -/
theorem everyCrcStateIsReachable : Obligations.EveryCrcStateIsReachable := by
  intro c
  obtain ⟨v, hv⟩ := exists_feedAll_argBytes State.reset.block.crcState c
  obtain ⟨t, hrun, -, hblock⟩ := runSteps_withLines State.reset (Pseudo.crcFeed4 v).expand
  refine ⟨(Pseudo.crcFeed4 v).expand, t, hrun, ?_⟩
  rw [hblock]
  exact hv

end Sys2Proof.Machine

/-! PROOF. The bytes of a big-endian word (20_memory.md R55, R56). -/

namespace Sys2Proof.Machine

/-- The four bytes taken from a word are its digits to the base 256 (R56, R74). -/
theorem argBytes_four_of_toNat {b0 b1 b2 b3 : Byte} {v : Word}
    (h : v.toNat = ((b0.toNat * 256 + b1.toNat) * 256 + b2.toNat) * 256 + b3.toNat) :
    argBytes v 4 = [b0, b1, b2, b3] := by
  simp only [argBytes_four, List.cons.injEq, and_true]
  refine ⟨?_, ?_, ?_, ?_⟩
  all_goals
    apply BitVec.eq_of_toNat_eq
    rw [BitVec.extractLsb'_toNat, Nat.shiftRight_eq_div_pow]
    omega

/-- Settles O7: both the wire and CRC_FEED4 take the four bytes of the word, the most significant first. -/
theorem bigEndianWordFeedsInWireOrder : Obligations.BigEndianWordFeedsInWireOrder := by
  intro b0 b1 b2 b3 v hv
  have hbytes := argBytes_four_of_toNat hv
  refine ⟨hbytes, hbytes, fun s harg => ⟨_, exec_eq .crcFeed4 s, ?_⟩⟩
  simp [blockAfter, harg, hbytes]

end Sys2Proof.Machine

/-! PROOF. A step on an access of the window is BusRead, BusWrite or the bus error (20_memory.md R51 to R53, R60). -/

namespace Sys2Proof.Machine

/-! ### The service of one access -/

theorem service_malformed {a : Access} (h : a.malformed = true) (b : Block) :
    service b a = (b, .busError) := by
  obtain ⟨op, off⟩ := a
  have hrefused : ¬ (op.width = 32 ∧ off % 4 = 0) := by
    simpa [Access.malformed, Decidable.imp_iff_not_or] using h
  cases op <;> exact if_neg hrefused

theorem service_read32 {off : Nat} (h4 : off % 4 = 0) (b : Block) :
    service b (read32 off) = (b, .data (busRead b off)) :=
  if_pos ⟨rfl, h4⟩

theorem service_write32 {off : Nat} (h4 : off % 4 = 0) (v : Word) (b : Block) :
    service b (write32 off v) = (busWrite b off v, .written) := by
  simp [service, write32, h4]

/-- BusWrite at CMD is the command that the word selects. -/
theorem busWrite_cmd (b : Block) (v : Word) : busWrite b 0x00 v = blockAfter (decodeCmd v) b := by
  simp [busWrite, exec_eq]

/-- Every command is answered as a completed write (R153). -/
theorem answer_decodeCmd (v : Word) (b : Block) : answer (decodeCmd v) b = .written := by
  unfold decodeCmd
  split
  · rfl
  · split <;> rfl

/-! ### The instruction of an access does what its service says -/

/-- An aligned read names a register, and leaves and answers what BusRead says (R51). -/
theorem decodeRead_service {off : Nat} (h : off < 32) (h4 : off % 4 = 0) :
    ∃ i, decodeRead off = .ok i ∧
      ∀ b, blockAfter i b = b ∧ answer i b = .data (busRead b off) := by
  obtain ⟨k, rfl⟩ := Nat.dvd_of_mod_eq_zero h4
  have hk : k < 8 := by omega
  interval_cases k <;> exact ⟨_, rfl, fun b => ⟨rfl, rfl⟩⟩

/-- An aligned write names a register or a command, and leaves and answers what BusWrite says (R51). -/
theorem decodeWrite_service {off : Nat} (v : Word) (h : off < 32) (h4 : off % 4 = 0) :
    ∃ i, decodeWrite off v = .ok i ∧
      ∀ b, blockAfter i b = busWrite b off v ∧ answer i b = .written := by
  obtain ⟨k, rfl⟩ := Nat.dvd_of_mod_eq_zero h4
  have hk : k < 8 := by omega
  interval_cases k
  · exact ⟨decodeCmd v, rfl, fun b => ⟨(busWrite_cmd b v).symm, answer_decodeCmd v b⟩⟩
  all_goals exact ⟨_, rfl, fun b => ⟨rfl, rfl⟩⟩

/-- Every access of the window decodes to an instruction that does what R51 and R52 say of the access. -/
theorem decode_service {a : Access} (h : a.off < 32) :
    ∃ i, decode a = .ok i ∧ ∀ b, service b a = (blockAfter i b, answer i b) := by
  cases hm : a.malformed with
  | true => exact ⟨.busError a, decode_malformed h hm, service_malformed hm⟩
  | false =>
    obtain ⟨op, off⟩ := a
    simp only [Access.malformed, Bool.or_eq_false_iff, bne_eq_false_iff_eq] at hm
    obtain ⟨hwidth, h4⟩ := hm
    cases op with
    | read w =>
      cases hwidth
      obtain ⟨i, hdec, hi⟩ := decodeRead_service h h4
      refine ⟨i, (decode_read32 h h4).trans hdec, fun b => ?_⟩
      obtain ⟨hblock, hanswer⟩ := hi b
      rw [hblock, hanswer]
      exact service_read32 h4 b
    | write w v =>
      cases hwidth
      obtain ⟨i, hdec, hi⟩ := decodeWrite_service v h h4
      refine ⟨i, (decode_write32 v h h4).trans hdec, fun b => ?_⟩
      obtain ⟨hblock, hanswer⟩ := hi b
      rw [hblock, hanswer]
      exact service_write32 h4 v b

/-- With reset released, a step on an access of the window takes it and services it (R6, R51, R52). -/
theorem step_service {s : State} {a : Access} {rest : List HostInput} (hreset : s.resetLine = false)
    (hoff : a.off < 32) (hin : s.inputs = s.inputOf a :: rest) :
    step s = .next { s with
      inputs := rest, block := (service s.block a).1, response := some (service s.block a).2 } := by
  obtain ⟨i, hdec, hservice⟩ := decode_service hoff
  rw [stepRunsDecodedInstruction s a.op a.off rest i hreset hin hdec, exec_eq, hservice]

/-- Settles O9: the service of an aligned access, offset by offset. -/
theorem alignedAccessIsServiced : Obligations.AlignedAccessIsServiced := by
  refine ⟨fun s rest off v hreset hmem hin => ?_, fun s rest v hreset hin => ?_,
    fun s rest v hreset hin => ?_, fun s rest off v hreset hmem hin => ?_⟩
  · have hread : off < 32 ∧ off % 4 = 0 ∧ busRead s.block off = v := by
      simp only [List.mem_cons, List.not_mem_nil, or_false, Prod.mk.injEq] at hmem
      rcases hmem with ⟨rfl, rfl⟩ | ⟨rfl, rfl⟩ | ⟨rfl, rfl⟩ | ⟨rfl, rfl⟩ | ⟨rfl, rfl⟩ | ⟨rfl, rfl⟩ |
        ⟨rfl, rfl⟩ | ⟨rfl, rfl⟩ <;> exact ⟨by decide, rfl, rfl⟩
    obtain ⟨hoff, h4, hval⟩ := hread
    rw [step_service (a := read32 off) hreset hoff hin, service_read32 h4, hval]
  · exact stepRunsDecodedInstruction s _ 0x00 rest _ hreset hin (decode_write32 v (by decide) rfl)
  · rw [step_service (a := write32 0x04 v) hreset (show 0x04 < 32 by decide) hin, service_write32 rfl]
    rfl
  · have hignored : off < 32 ∧ off % 4 = 0 ∧ busWrite s.block off v = s.block := by
      simp only [List.mem_cons, List.not_mem_nil, or_false] at hmem
      rcases hmem with rfl | rfl | rfl | rfl | rfl | rfl <;> exact ⟨by decide, rfl, rfl⟩
    obtain ⟨hoff, h4, hblock⟩ := hignored
    rw [step_service (a := write32 off v) hreset hoff hin, service_write32 h4, hblock]

/-- Settles O10: the service of a malformed access is the bus error, whatever its data. -/
theorem malformedAccessGetsBusError : Obligations.MalformedAccessGetsBusError := by
  refine ⟨fun a s => exec_eq (.busError a) s, fun s rest op off hreset hoff hbad hin => ?_⟩
  have hm : Access.malformed ⟨op, off⟩ = true := by simpa [Access.malformed] using hbad
  rw [step_service (a := ⟨op, off⟩) hreset hoff hin, service_malformed hm]

/-! ### Histories of accesses -/

theorem responsesOf_next {s t : State} (h : step s = .next t) (k : Nat) :
    responsesOf (k + 1) s = t.response :: responsesOf k t := by
  simp [responsesOf, h]

/-- Settles O16, by induction on the history: each step services its first access. -/
theorem historyIsTheFoldOfAccesses : Obligations.HistoryIsTheFoldOfAccesses := by
  intro s as hoff hreset hin
  induction as generalizing s with
  | nil => exact ⟨⟨s, rfl, rfl, hin⟩, rfl⟩
  | cons a rest ih =>
    have hstep := step_service hreset (hoff a List.mem_cons_self) hin
    obtain ⟨⟨t, hrun, hblock, hend⟩, hresponses⟩ :=
      ih { s with
          inputs := rest.map s.inputOf
          block := (service s.block a).1, response := some (service s.block a).2 }
        (fun a' ha' => hoff a' (List.mem_cons_of_mem a ha')) hreset rfl
    refine ⟨⟨t, (runSteps_next hstep _).trans hrun, hblock, hend⟩, ?_⟩
    exact (responsesOf_next hstep _).trans (congrArg _ hresponses)

/-- Settles O13: each is an ignored write, and the read of CMD answers 0. -/
theorem readOnlyWritesAreIgnored : Obligations.ReadOnlyWritesAreIgnored := fun s _ =>
  ⟨s.writeIgnored_eq, s.writeIgnored_eq, s.writeIgnored_eq, s.writeIgnored_eq, s.writeIgnored_eq,
    s.writeIgnored_eq, s.readData_eq _⟩

end Sys2Proof.Machine

/-! PROOF. What an access repeated at once does (20_memory.md R54). -/

namespace Sys2Proof.Machine

/-- An instruction that leaves and answers the same where it finds the registers it left repeats to the same state. -/
theorem exec_repeats {i : Instr} (hblock : ∀ b, blockAfter i (blockAfter i b) = blockAfter i b)
    (hanswer : ∀ b, answer i (blockAfter i b) = answer i b) (s : State) :
    ∃ t, exec i s = .next t ∧ exec i t = .next t := by
  refine ⟨_, exec_eq i s, ?_⟩
  rw [exec_eq, hblock, hanswer]

/-- An instruction that keeps every register has no side effect, however often it runs. -/
theorem exec_repeats_of_keeps {i : Instr} (hkeeps : ∀ b, blockAfter i b = b) (s : State) :
    ∃ t, exec i s = .next t ∧ t.block = s.block ∧ exec i t = .next t := by
  obtain ⟨t, hexec, hagain⟩ :=
    exec_repeats (fun b => hkeeps (blockAfter i b)) (fun b => congrArg (answer i) (hkeeps b)) s
  exact ⟨t, hexec, (block_of_exec_next hexec).trans (hkeeps s.block), hagain⟩

/-- An instruction that changes the registers it left changes the block when repeated. -/
theorem exec_changes_again {i : Instr} {s : State}
    (hblock : blockAfter i (blockAfter i s.block) ≠ blockAfter i s.block) :
    ∃ t u, exec i s = .next t ∧ exec i t = .next u ∧ u.block ≠ t.block :=
  ⟨_, _, exec_eq i s, exec_eq i _, hblock⟩

/-! ### Idempotent commands -/

theorem blockAfter_crcCheck_repeats (b : Block) :
    blockAfter .crcCheck (blockAfter .crcCheck b) = blockAfter .crcCheck b := by
  rcases blockAfter_crcCheck_cases b with ⟨h, he⟩ | ⟨h, he⟩ <;> rw [he]
  · exact if_pos h
  · exact if_neg h

theorem Block.checkType_repeats (b : Block) (v : Word) :
    (b.checkType v).checkType v = b.checkType v := by
  cases h : classify v with
  | valid =>
    simp only [Block.checkType_valid h]
    rfl
  | invalid k =>
    simp only [Block.checkType_invalid h]
    rfl

theorem blockAfter_typeCheck_repeats (b : Block) :
    blockAfter .typeCheck (blockAfter .typeCheck b) = blockAfter .typeCheck b := by
  have harg : (b.checkType b.arg).arg = b.arg := by simp [Block.checkType_frame]
  simp only [blockAfter, harg, Block.checkType_repeats]

/-! ### Feeds are not idempotent -/

@[simp] theorem Block.feedBytes_byteCount (b : Block) (m : List Byte) :
    (b.feedBytes m).byteCount = b.byteCount + BitVec.ofNat 32 m.length := rfl

/-- Feeding 1 to 4 bytes of ARG changes BYTE_COUNT, also where it wraps (R25). -/
theorem byteCount_feedBytes_argBytes_ne (b : Block) (v : Word) {n : Nat} (h0 : 0 < n) (h4 : n ≤ 4) :
    (b.feedBytes (argBytes v n)).byteCount ≠ b.byteCount := by
  rw [Block.feedBytes_byteCount, argBytes_length]
  interval_cases n <;> bv_omega

/-- A command that feeds 1 to 4 bytes of ARG feeds them again when repeated. -/
theorem exec_feed_changes_again {i : Instr} {n : Nat} (h0 : 0 < n) (h4 : n ≤ 4)
    (hfeed : ∀ b, blockAfter i b = b.feedBytes (argBytes b.arg n)) (s : State) :
    ∃ t u, exec i s = .next t ∧ exec i t = .next u ∧ u.block ≠ t.block := by
  refine exec_changes_again fun heq => ?_
  rw [hfeed (blockAfter i s.block)] at heq
  exact byteCount_feedBytes_argBytes_ne _ _ h0 h4 (congrArg Block.byteCount heq)

/-- TYPE_FEED of a valid code counts four bytes more (R106). -/
theorem byteCount_blockAfter_typeFeed_ne {b : Block} (h : classify b.arg = .valid) :
    (blockAfter .typeFeed b).byteCount ≠ b.byteCount := by
  have hfeed : blockAfter .typeFeed b = (b.checkType b.arg).feedBytes (argBytes b.arg 4) := by
    simp only [blockAfter, h]
  have hcount : (b.checkType b.arg).byteCount = b.byteCount := by simp [Block.checkType_frame]
  rw [hfeed, ← hcount]
  exact byteCount_feedBytes_argBytes_ne _ _ (by decide) le_rfl

/-- TYPE_FEED leaves ARG, so the second one finds the same valid code. -/
theorem exec_typeFeed_changes_again {s : State} (h : classify s.block.arg = .valid) :
    ∃ t u, exec .typeFeed s = .next t ∧ exec .typeFeed t = .next u ∧ u.block ≠ t.block := by
  refine exec_changes_again fun heq => ?_
  have harg : (blockAfter .typeFeed s.block).arg = s.block.arg := blockAfter_arg (by simp) _
  exact byteCount_blockAfter_typeFeed_ne (harg ▸ h) (congrArg Block.byteCount heq)

/-! ### The frame of every access but a write to CMD -/

theorem blockAfter_of_not_cmd {i : Instr} (h : ∀ w, encode i ≠ ⟨.write 32 w, 0x00⟩) (b : Block) :
    blockAfter i b = { b with arg := (blockAfter i b).arg } := by
  cases i with
  | nop | crcInit | crcFeed1 | crcFeed2 | crcFeed3 | crcFeed4 | crcCheck | typeCheck | typeFeed
  | clearStatus | illegal w => exact absurd rfl (h _)
  | _ => rfl

/-- Settles O15: each instruction is compared with itself in the registers that it left. -/
theorem sideEffectsAndIdempotency : Obligations.SideEffectsAndIdempotency := by
  refine ⟨fun i hi => ?reads, fun v => ?writeArg, fun i hi => ?idempotent, fun i hi => ?feeds,
    fun s => exec_typeFeed_changes_again, fun i s t hcmd hexec => ?frame⟩
  case reads =>
    simp only [List.mem_cons, List.not_mem_nil, or_false] at hi
    rcases hi with rfl | rfl | rfl | rfl | rfl | rfl | rfl | rfl <;>
      exact exec_repeats_of_keeps fun _ => rfl
  case writeArg => exact exec_repeats (fun _ => rfl) fun _ => rfl
  case idempotent =>
    simp only [List.mem_cons, List.not_mem_nil, or_false] at hi
    rcases hi with rfl | rfl | rfl | rfl | rfl
    · exact exec_repeats (fun _ => rfl) fun _ => rfl
    · exact exec_repeats (fun _ => rfl) fun _ => rfl
    · exact exec_repeats blockAfter_crcCheck_repeats fun _ => rfl
    · exact exec_repeats blockAfter_typeCheck_repeats fun _ => rfl
    · exact exec_repeats (fun _ => rfl) fun _ => rfl
  case feeds =>
    simp only [List.mem_cons, List.not_mem_nil, or_false] at hi
    rcases hi with rfl | rfl | rfl | rfl <;>
      exact exec_feed_changes_again (by decide) (by decide) fun _ => rfl
  case frame =>
    rw [block_of_exec_next hexec]
    exact blockAfter_of_not_cmd hcmd s.block

end Sys2Proof.Machine

/-! PROOF. Decode and encode are inverse on well-formed instructions, and a command word selects one behaviour (30_encoding.md R70 to R77). -/

namespace Sys2Proof.Machine

/-! ### Command words -/

/-- A write to CMD is decoded as its command word (R70, R76). -/
theorem decode_cmdWrite (w : Word) : decode ⟨.write 32 w, 0x00⟩ = .ok (decodeCmd w) :=
  decode_write32 w (by decide) rfl

/-- A word is illegal by its field RSV or by its field OPC (R77). -/
theorem illegalWord_iff_fields (w : Word) : illegalWord w = true ↔
    (w.extractLsb' 8 24 ≠ 0 ∨ 0x0A ≤ (w.extractLsb' 0 8).toNat) := by
  simp [illegalWord]

/-- The legal command words are the numbers 0 to 9 (R75, R77). -/
theorem illegalWord_iff_toNat (w : Word) : illegalWord w = true ↔ 10 ≤ w.toNat := by
  have hrsv : (w.extractLsb' 8 24).toNat = w.toNat / 2 ^ 8 % 2 ^ 24 := by
    simp [Nat.shiftRight_eq_div_pow]
  have hopc : (w.extractLsb' 0 8).toNat = w.toNat % 2 ^ 8 := by simp
  rw [illegalWord_iff_fields, ne_eq, BitVec.toNat_eq, hrsv, hopc, BitVec.ofNat_eq_ofNat,
    BitVec.toNat_zero]
  omega

theorem decodeCmd_of_illegalWord {w : Word} (h : illegalWord w = true) :
    decodeCmd w = .illegal w := by
  rw [illegalWord_iff_fields] at h
  unfold decodeCmd
  split
  · rfl
  next hrsv =>
    have hopc := h.resolve_left hrsv
    split
    case h_11 => rfl
    all_goals omega

theorem decodeCmd_wf (w : Word) : (decodeCmd w).wf = true := by
  cases h : illegalWord w with
  | true => rwa [decodeCmd_of_illegalWord h]
  | false =>
    have hlt : w.toNat < 10 := by simpa [h] using illegalWord_iff_toNat w
    obtain ⟨n, hn, rfl⟩ : ∃ n < 10, w = BitVec.ofNat 32 n := ⟨w.toNat, hlt, by simp⟩
    interval_cases n <;> rfl

/-- A word selects an illegal command exactly when it is illegal, and then the command carries it (R77). -/
theorem decodeCmd_eq_illegal_iff {w v : Word} :
    decodeCmd w = .illegal v ↔ v = w ∧ illegalWord w = true := by
  constructor
  · intro h
    have hv : write32 0x00 v = write32 0x00 w := by rw [← encode_decodeCmd w, h]; rfl
    obtain rfl : v = w := by simpa [write32] using hv
    exact ⟨rfl, by simpa [h, Instr.wf] using decodeCmd_wf v⟩
  · rintro ⟨rfl, h⟩
    exact decodeCmd_of_illegalWord h

theorem exists_decode_illegal_iff (w : Word) :
    (∃ v, decode ⟨.write 32 w, 0x00⟩ = .ok (.illegal v)) ↔ illegalWord w = true := by
  simp [decode_cmdWrite, decodeCmd_eq_illegal_iff]

/-- Of the 2^32 words all but the numbers 0 to 9 are illegal (R77). -/
theorem ncard_illegalWord : {w : Word | illegalWord w = true}.ncard = 2 ^ 32 - 10 := by
  have himage : BitVec.toNat '' {w : Word | illegalWord w = true} = Finset.Ico 10 (2 ^ 32) := by
    ext n
    simp only [Set.mem_image, Set.mem_ofPred_eq, illegalWord_iff_toNat, Finset.coe_Ico, Set.mem_Ico]
    constructor
    · rintro ⟨w, hw, rfl⟩
      exact ⟨hw, w.isLt⟩
    · rintro ⟨hlow, hhigh⟩
      have hn : (BitVec.ofNat 32 n).toNat = n := by rw [BitVec.toNat_ofNat, Nat.mod_eq_of_lt hhigh]
      exact ⟨BitVec.ofNat 32 n, hn.symm ▸ hlow, hn⟩
  rw [← Set.ncard_image_of_injective _ BitVec.toNat_injective, himage, Set.ncard_coe_finset,
    Nat.card_Ico]

/-! ### Decoding gives well-formed instructions, and every one of them -/

theorem wf_of_decodeRead {off : Nat} {i : Instr} (h : decodeRead off = .ok i) : i.wf = true := by
  unfold decodeRead at h
  split at h <;> cases h <;> rfl

theorem wf_of_decodeWrite {off : Nat} {v : Word} {i : Instr} (h : decodeWrite off v = .ok i) :
    i.wf = true := by
  unfold decodeWrite at h
  split at h
  case h_1 =>
    cases h
    exact decodeCmd_wf v
  all_goals cases h <;> rfl

theorem wf_of_decode {a : Access} {i : Instr} (h : decode a = .ok i) : i.wf = true := by
  unfold decode at h
  split at h
  · cases h
  next hin =>
    split at h
    next hm =>
      cases h
      simpa [Instr.wf, hm] using hin
    next =>
      split at h
      · exact wf_of_decodeRead h
      · exact wf_of_decodeWrite h

/-- Settles O1: an illegal word and a malformed access decode by their own rule, every other access by its offset and opcode. -/
theorem decodeOfEncode : Obligations.DecodeOfEncode := by
  intro i hwf
  cases i with
  | illegal w => exact (decode_cmdWrite w).trans (congrArg _ (decodeCmd_of_illegalWord hwf))
  | busError a =>
    obtain ⟨hmalformed, hwindow⟩ : a.malformed = true ∧ a.inWindow = true := by
      simpa [Instr.wf] using hwf
    exact decode_malformed (of_decide_eq_true hwindow) hmalformed
  | wArg v | wStatus v | wCrcState v | wCrcResult v | wByteCount v | wType v | wReserved v =>
    exact decode_write32 v (by decide) rfl
  | _ => rfl

/-- Settles O2: what an access decodes to has it as its access, and the accesses of the window are those that decode. -/
theorem encodeOfDecode : Obligations.EncodeOfDecode := by
  refine ⟨fun a i h => ⟨encode_of_decode h, wf_of_decode h⟩, fun a => ⟨?_, fun hoff => ?_⟩⟩
  · rintro ⟨i, h⟩
    exact off_lt_of_decode_ok h
  · obtain ⟨i, h, -⟩ := decode_service hoff
    exact ⟨i, h⟩

/-- Settles O3: the decoder tests RSV, then OPC as a number. -/
theorem executeSelectsByOpcode : Obligations.ExecuteSelectsByOpcode := by
  intro w
  refine (decode_cmdWrite w).trans (congrArg Except.ok ?_)
  unfold decodeCmd
  split
  · rfl
  next =>
    generalize w.extractLsb' 0 8 = opc
    simp only [BitVec.toNat_eq]
    split <;> simp_all

/-- Settles O4: the illegal words are those the decoder keeps as illegal commands, and executing one raises the CMD error. -/
theorem illegalWordsAreTheComplement : Obligations.IllegalWordsAreTheComplement := by
  refine ⟨fun w => ?_, ?_, fun w s h => ⟨?_, exec_eq (.illegal w) s⟩⟩
  · rw [exists_decode_illegal_iff, illegalWord_iff_fields]
  · simp only [exists_decode_illegal_iff]
    exact ncard_illegalWord
  · rw [decode_cmdWrite, decodeCmd_of_illegalWord ((illegalWord_iff_fields w).mpr h)]

/-- Settles O5: each word by the rule of its format. -/
theorem sampleWordsDecode : Obligations.SampleWordsDecode :=
  ⟨decode_cmdWrite _, decode_cmdWrite _, decode_cmdWrite _, decode_cmdWrite _,
    decode_line (.read .byteCount), decode_line (.write .arg _),
    decode_malformed (by decide) (by decide)⟩

/-- Settles O6: the definition is the formula, and the example computes. -/
theorem byteSelection : Obligations.ByteSelection :=
  ⟨fun _ _ _ => rfl, fun _ => ⟨rfl, rfl⟩, by decide⟩

end Sys2Proof.Machine

/-! PROOF. The expansion of crc.bytes feeds its bytes in order (30_encoding.md R81, 41_crc.md R125). -/

namespace Sys2Proof.Machine

/-! ### Feeding a stream in parts -/

theorem feedAll_append (s : Word) (m n : List Byte) :
    feedAll s (m ++ n) = feedAll (feedAll s m) n := by
  induction m generalizing s with
  | nil => rfl
  | cons b m ih => exact ih (feed s b)

theorem Block.feedBytes_append (b : Block) (m n : List Byte) :
    b.feedBytes (m ++ n) = (b.feedBytes m).feedBytes n := by
  simp [Block.feedBytes_eq, feedAll_append, BitVec.ofNat_add, BitVec.add_assoc]

/-! ### The registers along the lines of the host -/

/-- The registers after the host's lines, each run as its instruction (R60, R80). -/
def blockAfterLines (b : Block) (ls : List HostLine) : Block :=
  ls.foldl (fun b l => blockAfter l.instr b) b

theorem blockAfterLines_append (b : Block) (ls ls' : List HostLine) :
    blockAfterLines b (ls ++ ls') = blockAfterLines (blockAfterLines b ls) ls' :=
  List.foldl_append

/-- A command that feeds n bytes of ARG feeds those of the operand its lines write there first (R81). -/
theorem blockAfterLines_withArg_feed {v cmd : Word} {n : Nat} {m : List Byte}
    (hfeed : ∀ b, blockAfter (decodeCmd cmd) b = b.feedBytes (argBytes b.arg n))
    (hbytes : argBytes v n = m) (b : Block) :
    blockAfterLines b (withArg v cmd) = (b.setArg v).feedBytes m :=
  (hfeed (b.setArg v)).trans (hbytes ▸ rfl)

/-! ### The operands that crc.bytes writes to ARG, right-aligned (R74, R81) -/

theorem argBytes_three_append (b0 b1 b2 : Byte) :
    argBytes (0#8 ++ b0 ++ b1 ++ b2) 3 = [b0, b1, b2] :=
  congrArg (List.drop 1) (argBytes_append 0#8 b0 b1 b2)

theorem argBytes_two_append (b0 b1 : Byte) : argBytes (0#16 ++ b0 ++ b1) 2 = [b0, b1] :=
  congrArg (List.drop 2) (argBytes_append 0#8 0#8 b0 b1)

theorem argBytes_one_append (b0 : Byte) : argBytes (0#24 ++ b0) 1 = [b0] :=
  congrArg (List.drop 3) (argBytes_append 0#8 0#8 0#8 b0)

/-- The registers that crc.bytes leaves: some value in ARG, the stream fed. -/
theorem blockAfterLines_crcBytesLines (m : List Byte) (b : Block) :
    ∃ v, blockAfterLines b (crcBytesLines m) = (b.setArg v).feedBytes m := by
  induction m using crcBytesLines.induct generalizing b with
  | case1 b0 b1 b2 b3 rest ih =>
    have hfirst := blockAfterLines_withArg_feed (cmd := 0x00000005) (fun _ => rfl)
      (argBytes_append b0 b1 b2 b3) b
    obtain ⟨v, hrest⟩ := ih ((b.setArg (b0 ++ b1 ++ b2 ++ b3)).feedBytes [b0, b1, b2, b3])
    refine ⟨v, ?_⟩
    rw [crcBytesLines, blockAfterLines_append, hfirst, hrest]
    exact (Block.feedBytes_append (b.setArg v) [b0, b1, b2, b3] rest).symm
  | case2 b0 b1 b2 =>
    exact ⟨_, blockAfterLines_withArg_feed (fun _ => rfl) (argBytes_three_append b0 b1 b2) b⟩
  | case3 b0 b1 =>
    exact ⟨_, blockAfterLines_withArg_feed (fun _ => rfl) (argBytes_two_append b0 b1) b⟩
  | case4 b0 => exact ⟨_, blockAfterLines_withArg_feed (fun _ => rfl) (argBytes_one_append b0) b⟩
  | case5 => exact ⟨b.arg, (Block.feedBytes_nil _).symm⟩

/-- Settles O58: the run of the expansion leaves what its lines leave, which is the stream fed. -/
theorem crcBytesFeedsInOrder : Obligations.CrcBytesFeedsInOrder := by
  intro s m
  obtain ⟨t, hrun, hinputs, hblock⟩ := runSteps_withLines s (Pseudo.crcBytes m).expand
  obtain ⟨v, hfed⟩ := blockAfterLines_crcBytesLines m s.block
  have ht : t.block = (s.block.setArg v).feedBytes m := hblock.trans hfed
  exact ⟨t, hrun, by simp [ht], by simp [ht], by simp [ht], by simp [ht], hinputs⟩

end Sys2Proof.Machine

/-! PROOF. Letters, classification and properties of a type code (40_typecode.md R100 to R104). -/

namespace Sys2Proof.Machine

/-! ### Letters -/

/-- The letter test is the two ranges (R100). -/
theorem isLetter_iff (b : Byte) : isLetter b = true ↔
    ((0x41 ≤ b.toNat ∧ b.toNat ≤ 0x5A) ∨ (0x61 ≤ b.toNat ∧ b.toNat ≤ 0x7A)) := by
  simp [isLetter]

/-- Settles O23: the ranges are the definition's, and the list of the letters is computed. -/
theorem letterRanges : Obligations.LetterRanges :=
  ⟨isLetter_iff, by decide⟩

/-- Bit 5 tells the two ranges of letters apart (R103). -/
theorem letter_bit5_iff {b : Byte} (h : isLetter b = true) :
    b.getLsbD 5 = false ↔ (0x41 ≤ b.toNat ∧ b.toNat ≤ 0x5A) := by
  rw [isLetter_iff] at h
  rw [BitVec.getLsbD, Nat.testBit_eq_decide_div_mod_eq, decide_eq_false_iff_not]
  omega

/-- Digits, the zero byte and the bytes with bit 7 set are no letters (R104). -/
theorem isLetter_eq_false {b : Byte}
    (h : (0x30 ≤ b.toNat ∧ b.toNat ≤ 0x39) ∨ b = 0 ∨ b.getLsbD 7 = true) :
    isLetter b = false := by
  rw [← Bool.not_eq_true, isLetter_iff]
  rcases h with hdigit | rfl | hbit
  · omega
  · decide
  · rw [BitVec.getLsbD, Nat.testBit_eq_decide_div_mod_eq, decide_eq_true_iff] at hbit
    omega

/-! ### Classification -/

/-- Over ascending indices Classify stops at the least one whose byte is no letter (R101). -/
theorem classifyFrom_invalid_iff (v : Word) (k : BitVec 2) {l : List (BitVec 2)}
    (hasc : l.Pairwise (· < ·)) :
    classifyFrom v l = .invalid k ↔
      k ∈ l ∧ isLetter (byteN v 4 k.toNat) = false ∧
        ∀ i ∈ l, i < k → isLetter (byteN v 4 i.toNat) = true := by
  induction l with
  | nil => simp [classifyFrom]
  | cons i rest ih =>
    obtain ⟨hlt, hrest⟩ := List.pairwise_cons.mp hasc
    cases hi : isLetter (byteN v 4 i.toNat) with
    | true =>
      have hgo : classifyFrom v (i :: rest) = classifyFrom v rest := by simp [classifyFrom, hi]
      rw [hgo, ih hrest]
      -- Byte i is a letter, so k is not i, and i meets the condition on the indices before k.
      grind
    | false =>
      have hstop : classifyFrom v (i :: rest) = .invalid i := by simp [classifyFrom, hi]
      rw [hstop, Verdict.invalid.injEq]
      constructor
      · rintro rfl
        refine ⟨List.mem_cons_self, hi, fun j hj hji => ?_⟩
        rcases List.mem_cons.mp hj with rfl | hmem
        · exact absurd hji (BitVec.lt_irrefl j)
        · exact absurd (hlt j hmem) (BitVec.lt_asymm hji)
      · rintro ⟨hk, -, hbefore⟩
        rcases List.mem_cons.mp hk with rfl | hmem
        · rfl
        · exact absurd (hbefore i List.mem_cons_self (hlt k hmem)) (by simp [hi])

/-- Classify reports the first byte that is no letter (R101). -/
theorem classify_invalid_iff (v : Word) (k : BitVec 2) :
    classify v = .invalid k ↔
      isLetter (byteN v 4 k.toNat) = false ∧ ∀ j < k.toNat, isLetter (byteN v 4 j) = true := by
  have hall (i : BitVec 2) : i ∈ [(0 : BitVec 2), 1, 2, 3] := by revert i; decide
  rw [classify, classifyFrom_invalid_iff v k (by decide)]
  constructor
  · rintro ⟨-, hk, hbefore⟩
    exact ⟨hk, fun j hj => hbefore (BitVec.ofNatLT j (hj.trans k.isLt)) (hall _) hj⟩
  · rintro ⟨hk, hbefore⟩
    exact ⟨hall k, hk, fun i _ hi => hbefore i.toNat hi⟩

/-- Settles O24: the loop runs over the indices in ascending order. -/
theorem classifyFindsFirstNonLetter : Obligations.ClassifyFindsFirstNonLetter := fun v =>
  ⟨classify_valid_iff v, classify_invalid_iff v⟩

/-! ### Properties -/

/-- Bit j of byte i is bit `8 * (3 - i) + j` of the word (R74). -/
theorem getLsbD_byteN (v : Word) (i : Nat) {j : Nat} (h : j < 8) :
    (byteN v 4 i).getLsbD j = v.getLsbD (8 * (3 - i) + j) := by
  simp [byteN, h]

/-- Settles O25: each property is its bit of the byte, which is a bit of the word. -/
theorem propertyBits : Obligations.PropertyBits := by
  refine ⟨fun v => ?byteBit, fun v => ?wordBit⟩
  case byteBit => simp [critical, publicBit, reservedValid, safeToCopy]
  case wordBit =>
    have hbit (i : Nat) : (byteN v 4 i).getLsbD 5 = v.getLsbD (8 * (3 - i) + 5) :=
      getLsbD_byteN v i (by decide)
    simp only [critical, publicBit, reservedValid, safeToCopy, hbit, and_self]

/-- For a valid code the bit test and the uppercase test of byte 2 agree (R103). -/
theorem reservedValid_iff_uppercase {v : Word} (h : classify v = .valid) :
    reservedValid v = true ↔ (0x41 ≤ (byteN v 4 2).toNat ∧ (byteN v 4 2).toNat ≤ 0x5A) := by
  rw [reservedValid, Bool.not_eq_true']
  exact letter_bit5_iff ((classify_valid_iff v).mp h 2 (by decide))

/-- Settles O26: TYPE_CHECK shows the property of a valid code, and 0 for an invalid one. -/
theorem reservedValidIsUppercase : Obligations.ReservedValidIsUppercase := by
  refine ⟨fun _ => letter_bit5_iff, fun _ => reservedValid_iff_uppercase,
    fun s => ⟨_, exec_eq .typeCheck s, ?_⟩⟩
  rcases s.block.checkType_cases s.block.arg with ⟨hv, he⟩ | ⟨k, hk, he⟩
  · simpa [blockAfter, he, hv, Block.acceptType_eq] using reservedValid_iff_uppercase hv
  · simp [blockAfter, he, hk, Block.raise_type]

/-! ### Counting the valid codes -/

/-- The letters (R100). -/
def letters : Finset Byte := Finset.univ.filter fun b => isLetter b = true

@[simp] theorem mem_letters {b : Byte} : b ∈ letters ↔ isLetter b = true := by
  simp [letters]

theorem card_letters : letters.card = 52 := by decide

/-- The four bytes of a word, the first one most significant (R74). -/
def wordBytes (v : Word) : Byte × Byte × Byte × Byte :=
  (byteN v 4 0, byteN v 4 1, byteN v 4 2, byteN v 4 3)

theorem wordBytes_injective : Function.Injective wordBytes := by
  intro v w h
  simp only [wordBytes, byteN, Prod.mk.injEq, BitVec.toNat_eq, BitVec.extractLsb'_toNat,
    Nat.shiftRight_eq_div_pow] at h
  apply BitVec.eq_of_toNat_eq
  omega

theorem wordBytes_surjective : Function.Surjective wordBytes := by
  rintro ⟨b0, b1, b2, b3⟩
  exact ⟨b0 ++ b1 ++ b2 ++ b3, by
    simpa [wordBytes, argBytes, List.range_succ] using argBytes_append b0 b1 b2 b3⟩

/-- A code is valid when its four bytes are in the set of letters (R104). -/
theorem setOf_valid_eq_preimage : {v : Word | classify v = .valid} =
    wordBytes ⁻¹' (letters ×ˢ letters ×ˢ letters ×ˢ letters : Finset _) := by
  ext v
  simp [wordBytes, classify, classifyFrom_valid_iff]

/-- 52 letters for each of the four bytes (R104). -/
theorem ncard_valid : {v : Word | classify v = .valid}.ncard = 52 ^ 4 := by
  rw [setOf_valid_eq_preimage, Set.ncard_preimage_of_injective_subset_range wordBytes_injective
    (by simp [wordBytes_surjective.range_eq]), Set.ncard_coe_finset]
  simp [card_letters]

/-- The other words of the 2^32 (R104). -/
theorem ncard_invalid : {v : Word | classify v ≠ .valid}.ncard = 4287655680 := by
  have hcard : Nat.card Word = 2 ^ 32 := Nat.card_eq_of_equiv_fin FinEnum.equiv
  have hsum := Set.ncard_add_ncard_compl {v : Word | classify v = .valid}
  rw [hcard, ncard_valid] at hsum
  rw [← Set.compl_ofPred]
  omega

/-- Settles O27: the valid codes are the words of four letters, the others their complement. -/
theorem validTypeCodesCount : Obligations.ValidTypeCodesCount := by
  refine ⟨ncard_valid, ncard_invalid, classify_valid_iff, fun v i hi hbyte hv => ?_⟩
  have hletter := (classify_valid_iff v).mp hv i hi
  rw [isLetter_eq_false hbyte] at hletter
  contradiction

end Sys2Proof.Machine

/-! PROOF. TYPE_CHECK and TYPE_FEED (40_typecode.md R105 to R107). -/

namespace Sys2Proof.Machine

/-! ### What the two commands leave -/

theorem blockAfter_typeCheck_valid {b : Block} (h : classify b.arg = .valid) :
    blockAfter .typeCheck b = b.acceptType b.arg :=
  Block.checkType_valid h b

theorem blockAfter_typeCheck_invalid {b : Block} {k : BitVec 2} (h : classify b.arg = .invalid k) :
    blockAfter .typeCheck b = b.raise (.type k) :=
  Block.checkType_invalid h b

/-- A failed TYPE_CHECK shows the index of the first byte that is no letter (R105). -/
theorem status_typeCheck_invalid {b : Block} {k : BitVec 2} (h : classify b.arg = .invalid k) :
    (blockAfter .typeCheck b).status.typeErr = true ∧
      (blockAfter .typeCheck b).status.typeErrIdx = k := by
  rw [blockAfter_typeCheck_invalid h]
  exact ⟨rfl, rfl⟩

/-- TYPE_FEED of a valid code is TYPE_CHECK and then CRC_FEED4 (R106). -/
theorem blockAfter_typeFeed_valid {b : Block} (h : classify b.arg = .valid) :
    blockAfter .typeFeed b = blockAfter .crcFeed4 (blockAfter .typeCheck b) := by
  simp only [blockAfter, h, Block.checkType_frame]

/-- TYPE_FEED of an invalid code is TYPE_CHECK (R106). -/
theorem blockAfter_typeFeed_invalid {b : Block} {k : BitVec 2} (h : classify b.arg = .invalid k) :
    blockAfter .typeFeed b = blockAfter .typeCheck b := by
  simp only [blockAfter, h]

/-! ### TYPE_CHECK -/

/-- The low byte of STATUS is what a type check shows (R27). -/
theorem Status.toWord_low_byte (st : Status) :
    st.toWord.extractLsb' 0 8 =
      (BitVec.ofBool st.safeToCopy ++ BitVec.ofBool st.reservedValid ++ BitVec.ofBool st.publicBit
        ++ BitVec.ofBool st.critical ++ st.typeErrIdx ++ BitVec.ofBool st.typeErr
        ++ BitVec.ofBool st.typeValid).setWidth 8 := by
  ext i hi
  simp only [BitVec.getElem_extractLsb', BitVec.getElem_setWidth, Status.getLsbD_toWord,
    BitVec.getLsbD_append]
  interval_cases i <;> simp

/-- Settles O28: the check accepts the value or raises the TYPE error. -/
theorem typeCheckValidatesArg : Obligations.TypeCheckValidatesArg := by
  refine ⟨decode_cmdWrite 0x00000007, fun s h => ?valid, fun s k h => ?invalid,
    fun s harg => ⟨_, exec_eq .typeCheck s, ?sample⟩,
    fun s harg => ⟨_, exec_eq .typeCheck s, ?zero⟩,
    fun s harg => ⟨_, exec_eq .typeCheck s, ?twoBad⟩, by decide⟩
  case valid =>
    rw [exec_eq, blockAfter_typeCheck_valid h]
    rfl
  case invalid =>
    rw [exec_eq, blockAfter_typeCheck_invalid h]
    rfl
  case sample =>
    have hvalid : classify s.block.arg = .valid := by rw [harg]; decide
    simp only [blockAfter_typeCheck_valid hvalid, harg, Block.acceptType_eq,
      Status.toWord_low_byte, true_and]
    decide
  case zero => exact status_typeCheck_invalid (by rw [harg]; decide)
  case twoBad => exact status_typeCheck_invalid (by rw [harg]; decide)

/-! ### TYPE_FEED -/

/-- Settles O29: TYPE_CHECK, then CRC_FEED4 for a valid code and nothing for an invalid one. -/
theorem typeFeedFeedsOnlyValidTypes : Obligations.TypeFeedFeedsOnlyValidTypes := by
  refine ⟨decode_cmdWrite 0x00000008, fun s h => ?valid, fun s k h => ?invalid,
    fun s h => ⟨_, _, exec_eq .typeCheck s, exec_eq .crcFeed4 _, ?both⟩,
    fun s hcount h => ⟨_, exec_eq .typeFeed s, ?wrap⟩,
    fun s hblock => ⟨_, exec_eq .typeFeed s, ?sample⟩⟩
  case valid =>
    rw [exec_eq, blockAfter_typeFeed_valid h, blockAfter_typeCheck_valid h]
    rfl
  case invalid =>
    rw [exec_eq, blockAfter_typeFeed_invalid h, blockAfter_typeCheck_invalid h]
    rfl
  case both =>
    rw [exec_eq, blockAfter_typeFeed_valid h]
    rfl
  case wrap =>
    rw [blockAfter_typeFeed_valid h, blockAfter_typeCheck_valid h]
    simp [blockAfter, Block.acceptType_eq, hcount]
  case sample =>
    simp only [hblock]
    decide +kernel

/-- Settles O30: both commands leave the accepted value in TYPE, and a read of TYPE answers it. -/
theorem typeReadsBackUnchanged : Obligations.TypeReadsBackUnchanged := by
  intro i hi s h
  refine ⟨_, _, exec_eq i s, exec_eq .rType _, ?_⟩
  have htype : (blockAfter i s.block).typeReg = s.block.arg := by
    simp only [List.mem_cons, List.not_mem_nil, or_false] at hi
    rcases hi with rfl | rfl
    · rw [blockAfter_typeCheck_valid h]
      rfl
    · rw [blockAfter_typeFeed_valid h, blockAfter_typeCheck_valid h]
      rfl
  exact congrArg (some <| Response.data ·) htype

end Sys2Proof.Machine

/-! PROOF. The block is the image of the stream fed to it (41_crc.md R124). -/

namespace Sys2Proof.Machine

/-! ### Blocks that hold a stream -/

/-- CRC_RESULT is computed from CRC_STATE, so that CRC_STATE and BYTE_COUNT alone tell the stream (R23). -/
theorem Block.holdsStream_iff (b : Block) (m : List Byte) :
    b.HoldsStream m ↔
      b.crcState = feedAll Config.crcInit m ∧ b.byteCount = BitVec.ofNat 32 m.length :=
  ⟨fun ⟨hcrc, _, hcount⟩ => ⟨hcrc, hcount⟩,
    fun ⟨hcrc, hcount⟩ => ⟨hcrc, congrArg (· ^^^ Config.crcFinalXor) hcrc, hcount⟩⟩

theorem Block.reset_holdsStream : Block.reset.HoldsStream [] :=
  (Block.reset.holdsStream_iff []).mpr ⟨rfl, rfl⟩

theorem Block.HoldsStream.congr {b b' : Block} {m : List Byte} (h : b.HoldsStream m)
    (hcrc : b'.crcState = b.crcState) (hcount : b'.byteCount = b.byteCount) : b'.HoldsStream m := by
  rw [Block.holdsStream_iff] at h ⊢
  rwa [hcrc, hcount]

theorem Block.HoldsStream.feedBytes {b : Block} {m : List Byte} (h : b.HoldsStream m)
    (n : List Byte) : (b.feedBytes n).HoldsStream (m ++ n) := by
  rw [Block.holdsStream_iff] at h ⊢
  obtain ⟨hcrc, hcount⟩ := h
  simp [hcrc, hcount, feedAll_append, BitVec.ofNat_add]

theorem Block.HoldsStream.checkType {b : Block} {m : List Byte} (h : b.HoldsStream m) (v : Word) :
    (b.checkType v).HoldsStream m := by
  obtain ⟨-, hcrc, hcount, -⟩ := b.checkType_frame v
  exact h.congr hcrc hcount

/-- Every instruction does to the registers what it does to the stream (R124). -/
theorem Block.HoldsStream.blockAfter {b : Block} {m : List Byte} (h : b.HoldsStream m) (i : Instr) :
    (blockAfter i b).HoldsStream (streamAfterInstr i b m) := by
  cases i with
  | crcInit => exact Block.reset_holdsStream.congr rfl rfl
  | crcFeed1 => exact h.feedBytes (argBytes b.arg 1)
  | crcFeed2 => exact h.feedBytes (argBytes b.arg 2)
  | crcFeed3 => exact h.feedBytes (argBytes b.arg 3)
  | crcFeed4 => exact h.feedBytes (argBytes b.arg 4)
  | crcCheck =>
    rcases blockAfter_crcCheck_cases b with ⟨-, he⟩ | ⟨-, he⟩ <;> exact he ▸ h.congr rfl rfl
  | typeCheck => exact h.checkType b.arg
  | typeFeed =>
    simp only [Machine.blockAfter, streamAfterInstr]
    cases classify b.arg with
    | valid => exact (h.checkType b.arg).feedBytes (argBytes b.arg 4)
    | invalid k => exact h.checkType b.arg
  | _ => exact h.congr rfl rfl

/-! ### The stream along a step -/

/-- An applied reset empties the stream. -/
theorem nextStream_of_reset {s : State} (hreset : s.inputs.head? = some (.reset true))
    (m : List Byte) : nextStream s m = [] := by
  obtain ⟨rest, hin⟩ := List.head?_eq_some_iff.mp hreset
  simp only [nextStream, hin]

/-- An input that runs an instruction changes the stream as the instruction does. -/
theorem nextStream_of_fetch_run {s u : State} {i : Instr} (hfetch : s.fetch = .run i u)
    (m : List Byte) : nextStream s m = streamAfterInstr i u.block m := by
  unfold nextStream
  split
  next hin =>
    rw [State.fetch_reset hin] at hfetch
    contradiction
  next => rw [hfetch]

/-- An input other than an applied reset that runs no instruction keeps the stream. -/
theorem nextStream_of_fetch_done {s u : State} (hreset : s.inputs.head? ≠ some (.reset true))
    (hfetch : s.fetch = .done u) (m : List Byte) : nextStream s m = m := by
  unfold nextStream
  split
  next hin => exact absurd (by rw [hin]; rfl) hreset
  next => rw [hfetch]

/-- An access that runs an instruction or misses the window changes no register before that. -/
theorem State.fetchAccess_block {s u : State} {op : BusOp} {addr : Nat}
    (h : s.fetchAccess op addr = .done u ∨ ∃ i, s.fetchAccess op addr = .run i u) :
    u.block = s.block := by
  rcases s.fetchAccess_cases op addr with
    ⟨-, he⟩ | ⟨a, -, -, he⟩ | ⟨a, i, -, -, -, he⟩ | ⟨a, -, -, -, he⟩
  · obtain rfl : s.respond none = u := by simpa [he] using h
    rfl
  · simp [he] at h
  · obtain rfl : s = u := by simpa [he] using h
    rfl
  · simp [he] at h

theorem State.fetch_run_block {s u : State} {i : Instr} (h : s.fetch = .run i u) :
    u.block = s.block := by
  unfold State.fetch at h
  split at h
  case h_2 op addr rest _ => exact State.fetchAccess_block (s := s.setInputs rest) (.inr ⟨i, h⟩)
  all_goals contradiction

theorem State.fetch_done_block {s u : State} (hreset : s.inputs.head? ≠ some (.reset true))
    (hpower : s.inputs.head? ≠ some .powerLoss) (h : s.fetch = .done u) : u.block = s.block := by
  unfold State.fetch at h
  split at h
  case h_1 => cases h; rfl
  case h_2 op addr rest _ => exact State.fetchAccess_block (s := s.setInputs rest) (.inl h)
  case h_3 hin => exact absurd (by rw [hin]; rfl) hreset
  case h_4 => cases h; rfl
  case h_5 hin => exact absurd (by rw [hin]; rfl) hpower

/-- What a step other than a loss of power does to registers and stream: it keeps both, resets both, or runs one instruction on both. -/
theorem step_stream_cases {s t : State} (hpower : s.inputs.head? ≠ some .powerLoss)
    (h : step s = .next t) (m : List Byte) :
    (t.block = s.block ∧ nextStream s m = m) ∨ (t.block = Block.reset ∧ nextStream s m = []) ∨
      ∃ i, t.block = blockAfter i s.block ∧ nextStream s m = streamAfterInstr i s.block m := by
  by_cases hreset : s.inputs.head? = some (.reset true)
  · exact .inr (.inl ⟨step_reset_block hreset h, nextStream_of_reset hreset m⟩)
  cases hfetch : s.fetch with
  | done u =>
    cases (step_done hfetch).symm.trans h
    exact .inl ⟨State.fetch_done_block hreset hpower hfetch,
      nextStream_of_fetch_done hreset hfetch m⟩
  | run i u =>
    rw [step_run hfetch] at h
    rw [block_of_exec_next h, nextStream_of_fetch_run hfetch, State.fetch_run_block hfetch]
    exact .inr (.inr ⟨i, rfl, rfl⟩)
  | stuck f => cases (step_stuck hfetch).symm.trans h
  | stop r => cases (step_stop hfetch).symm.trans h

/-- Settles O56: reset empties the stream, and every instruction changes registers and stream alike. -/
theorem stepKeepsStream : Obligations.StepKeepsStream := by
  intro s t m h hpower hstep
  rcases step_stream_cases hpower hstep m with ⟨hb, hm⟩ | ⟨hb, hm⟩ | ⟨i, hb, hm⟩ <;> rw [hb, hm]
  · exact h
  · exact Block.reset_holdsStream
  · exact h.blockAfter i

end Sys2Proof.Machine

/-! PROOF. The CRC functions: the bit loop, the table, the residue and streams (41_crc.md R120 to R125). -/

namespace Sys2Proof.Machine

/-! ### The bit loop and the table -/

/-- Turns of the loop of Feed, as a fold over their indices (R121). -/
theorem feedBits_eq_foldl (n : Nat) (s : Word) :
    feedBits n s = (List.range n).foldl (fun x _ => feedBit x) s := by
  induction n generalizing s with
  | zero => rfl
  | succ n ih => rw [List.range_succ_eq_map, List.foldl_cons, List.foldl_map, feedBits, ih]

/-- Settles O31: a turn of the loop is one conditional shift. -/
theorem feedIsEightShifts : Obligations.FeedIsEightShifts := fun s b =>
  feedBits_eq_foldl 8 (s ^^^ b.setWidth 32)

theorem crcTableEntry_eq_feed_zero (i : Byte) : crcTableEntry i = feed 0 i := by
  rw [crcTableEntry, feed, feed, BitVec.xor_comm]
  rfl

/-- The table form of Feed: only the low byte of s xor b goes through the loop (R122). -/
theorem feed_eq_table (s : Word) (b : Byte) :
    feed s b = (s >>> 8) ^^^ crcTableEntry (((s ^^^ b.setWidth 32) &&& 0xFF).setWidth 8) := by
  have hlow : (s ^^^ b.setWidth 32).extractLsb' 0 8 =
      ((s ^^^ b.setWidth 32) &&& 0xFF).setWidth 8 := by
    rw [BitVec.setWidth_and, show (0xFF : Word).setWidth 8 = BitVec.allOnes 8 by decide,
      BitVec.and_allOnes, ← BitVec.setWidth_eq_extractLsb' (by decide)]
  have hhigh : (s ^^^ b.setWidth 32) >>> 8 = s >>> 8 := by
    ext i hi
    simp
  calc feed s b = feedBits 8 (0#32 ^^^ (s ^^^ b.setWidth 32)) := by rw [BitVec.zero_xor]; rfl
    _ = feed 0 ((s ^^^ b.setWidth 32).extractLsb' 0 8) ^^^ (s ^^^ b.setWidth 32) >>> 8 :=
      feedBits_eight_xor 0 _
    _ = _ := by rw [hlow, hhigh, crcTableEntry_eq_feed_zero, BitVec.xor_comm]

/-- Settles O32: the law is the table form, and the entries are computed. -/
theorem tableFormEqualsBitLoop : Obligations.TableFormEqualsBitLoop :=
  ⟨fun _ => rfl, feed_eq_table, by decide⟩

/-! ### Streams -/

/-- Settles O33: the definitions of R123, and the two known values computed. -/
theorem crcCheckValues : Obligations.CrcCheckValues :=
  ⟨fun _ => rfl, feedAll_nil, feedAll_cons, by decide, by decide +kernel, by decide +kernel⟩

/-- Settles O35: bytes are fed one after the other. -/
theorem concatenationLaw : Obligations.ConcatenationLaw := feedAll_append

/-! ### The residue -/

/-- Feeding the four bytes of a word, least significant first, is 32 turns of the loop on the state xor the word. -/
theorem feedAll_bytes_low_first (s w : Word) :
    feedAll s [w.extractLsb' 0 8, w.extractLsb' 8 8, w.extractLsb' 16 8, w.extractLsb' 24 8] =
      feedBits 32 (s ^^^ w) := by
  have hbyte (k : Nat) : (w >>> k).extractLsb' 0 8 = w.extractLsb' k 8 := by
    ext i hi
    simp
  have hout : w >>> 32 = 0 := BitVec.ushiftRight_eq_zero (by decide)
  have hturns : feedBits 32 (s ^^^ w) =
      feedBits 8 (feedBits 8 (feedBits 8 (feedBits 8 (s ^^^ w)))) := by
    rw [← feedBits_add, ← feedBits_add, ← feedBits_add]
  simp only [hturns, feedBits_eight_xor, ← BitVec.shiftRight_add, hbyte, Nat.reduceAdd, hout,
    feedAll_cons, feedAll_nil]
  exact BitVec.xor_zero.symm

/-- Settles O34: the CRC cancels the state, so that only the final XOR goes through the loop. -/
theorem residueOfEveryMessage : Obligations.ResidueOfEveryMessage := by
  intro m
  have hcancel : feedAll Config.crcInit m ^^^ crc32 m = Config.crcFinalXor := by
    rw [crc32, ← BitVec.xor_assoc, BitVec.xor_self, BitVec.zero_xor]
  rw [feedAll_append, feedAll_bytes_low_first]
  exact (congrArg (feedBits 32) hcancel).trans (by decide +kernel)

end Sys2Proof.Machine

/-! PROOF. The commands of the CRC engine (41_crc.md R126 to R131, R134). -/

namespace Sys2Proof.Machine

/-! ### CRC_INIT and the feeds -/

/-- CRC_RESULT of the empty stream is 0 (R23, R126). -/
theorem crcResult_crcInit (b : Block) : (blockAfter .crcInit b).crcResult = 0 :=
  (by decide : Config.crcInit ^^^ Config.crcFinalXor = 0)

/-- Settles O37: a second CRC_INIT writes the same values again. -/
theorem crcInitStartsStream : Obligations.CrcInitStartsStream :=
  ⟨decode_cmdWrite 0x00000001, exec_eq .crcInit,
    fun s => ⟨_, _, exec_eq .crcInit s, exec_eq .crcInit _, exec_eq .rCrcResult _,
      congrArg (some <| Response.data ·) (crcResult_crcInit s.block)⟩⟩

@[simp] theorem Block.feedBytes_crcResult (b : Block) (m : List Byte) :
    (b.feedBytes m).crcResult = feedAll b.crcState m ^^^ Config.crcFinalXor := rfl

/-- Settles O38: the general clause is the command's operation, and the corner cases are computed. -/
theorem crcFeed1AppendsOneByte : Obligations.CrcFeed1AppendsOneByte := by
  refine ⟨decode_cmdWrite 0x00000002, exec_eq .crcFeed1,
    fun s hcount => ⟨_, exec_eq .crcFeed1 s, ?wrap⟩,
    fun s harg => ⟨_, exec_eq .crcFeed1 s, ?lowByte⟩,
    fun s hcrc hcount harg => ⟨_, exec_eq .crcFeed1 s, ?sample⟩⟩
  case wrap => simp [blockAfter, hcount]
  case lowByte =>
    simp only [blockAfter, Block.feedBytes_crcState, argBytes_one, harg, feedAll_cons, feedAll_nil]
    rfl
  case sample =>
    simp only [blockAfter, Block.feedBytes_crcState, Block.feedBytes_crcResult,
      Block.feedBytes_byteCount, hcrc, hcount, harg]
    decide +kernel

/-- Settles O39: the general clause is the command's operation, and the corner cases are computed. -/
theorem crcFeed2AppendsTwoBytes : Obligations.CrcFeed2AppendsTwoBytes := by
  refine ⟨decode_cmdWrite 0x00000003, exec_eq .crcFeed2,
    fun s hcount => ⟨_, exec_eq .crcFeed2 s, ?wrap⟩,
    fun s hcrc hcount harg => ⟨_, exec_eq .crcFeed2 s, ?sample⟩⟩
  case wrap => simp [blockAfter, hcount]
  case sample =>
    simp only [blockAfter, Block.feedBytes_crcResult, Block.feedBytes_byteCount, hcrc, hcount, harg]
    decide +kernel

/-- Settles O40: the three feeds of the example leave a block that holds the nine bytes. -/
theorem crcFeed3AppendsThreeBytes : Obligations.CrcFeed3AppendsThreeBytes := by
  refine ⟨decode_cmdWrite 0x00000004, exec_eq .crcFeed3,
    fun s hcount => ⟨_, exec_eq .crcFeed3 s, ?wrap⟩,
    fun s hcrc hcount =>
      ⟨_, _, _, exec_eq .crcFeed4 _, exec_eq .crcFeed3 _, exec_eq .crcFeed2 _, ?sample⟩⟩
  case wrap => simp [blockAfter, hcount]
  case sample =>
    have h4 := (Block.reset_holdsStream.congr hcrc hcount).feedBytes (argBytes 0x31323334 4)
    have h9 := (h4.feedBytes (argBytes 0x00353637 3)).feedBytes (argBytes 0x00003839 2)
    obtain ⟨-, hresult, hbytes⟩ := h9
    exact ⟨hresult.trans (by decide +kernel), hbytes⟩

/-- Settles O41: the general clause is the command's operation, and the corner cases are computed. -/
theorem crcFeed4AppendsFourBytes : Obligations.CrcFeed4AppendsFourBytes := by
  refine ⟨decode_cmdWrite 0x00000005, exec_eq .crcFeed4,
    fun s hcount => ⟨_, exec_eq .crcFeed4 s, ?wrap⟩,
    fun s hcrc harg => ⟨_, exec_eq .crcFeed4 s, ?ones⟩,
    fun s hcrc hcount harg => ⟨_, exec_eq .crcFeed4 s, ?sample⟩⟩
  case wrap => simp [blockAfter, hcount]
  case ones =>
    simp only [blockAfter, Block.feedBytes_crcState, Block.feedBytes_crcResult, hcrc, harg]
    decide +kernel
  case sample =>
    simp only [blockAfter, Block.feedBytes_crcState, Block.feedBytes_crcResult,
      Block.feedBytes_byteCount, hcrc, hcount, harg]
    decide +kernel

/-! ### CRC_CHECK -/

theorem blockAfter_crcCheck_match {b : Block} (h : b.crcResult = b.arg) :
    blockAfter .crcCheck b = b.setStatus { b.status with crcMatch := true, crcErr := false } :=
  if_pos h

theorem blockAfter_crcCheck_mismatch {b : Block} (h : b.crcResult ≠ b.arg) :
    blockAfter .crcCheck b = b.raise .crc :=
  if_neg h

/-- CRC_CHECK shows the comparison in both flags (R131). -/
theorem flags_crcCheck_iff (b : Block) :
    ((blockAfter .crcCheck b).status.crcMatch = true ↔ b.crcResult = b.arg) ∧
      ((blockAfter .crcCheck b).status.crcErr = true ↔ b.crcResult ≠ b.arg) := by
  rcases blockAfter_crcCheck_cases b with ⟨h, he⟩ | ⟨h, he⟩
  · simp [he, h]
  · simp [he, h, Block.raise_crc]

/-- Settles O42: both cases of the comparison, and the examples computed. -/
theorem crcCheckComparesAllBits : Obligations.CrcCheckComparesAllBits := by
  refine ⟨decode_cmdWrite 0x00000006, fun s h => ?equal, fun s h => ?unequal,
    fun s hcrc harg => ⟨_, exec_eq .crcCheck s, (flags_crcCheck_iff _).1.mpr ?empty⟩,
    fun s hcrc harg => ⟨_, exec_eq .crcCheck s, (flags_crcCheck_iff _).1.mpr ?sample⟩,
    fun s hcrc harg => ⟨_, exec_eq .crcCheck s, ?lastBit⟩⟩
  case equal =>
    rw [exec_eq, blockAfter_crcCheck_match h]
    rfl
  case unequal =>
    rw [exec_eq, blockAfter_crcCheck_mismatch h]
    rfl
  case empty =>
    rw [Block.crcResult, hcrc, harg]
    decide
  case sample =>
    rw [Block.crcResult, hcrc, harg]
    decide
  case lastBit =>
    have h : s.block.crcResult ≠ s.block.arg := by
      rw [Block.crcResult, hcrc, harg]
      decide
    rw [blockAfter_crcCheck_mismatch h]
    exact ⟨rfl, rfl⟩

/-- Flipping one bit of a word changes it. -/
theorem xor_one_shiftLeft_ne (c : Word) {k : Nat} (h : k < 32) : c ≠ c ^^^ (1#32 <<< k) := by
  intro heq
  have hbit := congrArg (·.getLsbD k) heq
  simp [h] at hbit

/-- Settles O43: CRC_RESULT is the checksum that passed, so it differs from the flipped one. -/
theorem flippedChecksumBitFails : Obligations.FlippedChecksumBitFails := by
  intro s t c k hk hexec hmatch
  rw [block_of_exec_next hexec] at hmatch
  have hpass : s.block.crcResult = c := (flags_crcCheck_iff _).1.mp hmatch
  have hfail : s.block.crcResult ≠ c ^^^ (1#32 <<< k) := hpass ▸ xor_one_shiftLeft_ne _ hk
  refine ⟨_, exec_eq .crcCheck _, ?_⟩
  rw [blockAfter_crcCheck_mismatch hfail]
  exact ⟨rfl, rfl, rfl⟩

end Sys2Proof.Machine

/-! PROOF. The stream along a run from reset (41_crc.md R124). -/

namespace Sys2Proof.Machine

/-- Inputs that are still to come were to come before the step. -/
theorem powerLoss_not_mem_of_step {s t : State} (hpower : .powerLoss ∉ s.inputs)
    (h : step s = .next t) : .powerLoss ∉ t.inputs := by
  rcases step_cases h with ⟨-, rfl⟩ | ⟨input, hin, -⟩
  · exact hpower
  · rw [hin] at hpower
    exact fun hmem => hpower (List.mem_cons_of_mem _ hmem)

theorem streamAfter_next {s t : State} (h : step s = .next t) (k : Nat) (m : List Byte) :
    streamAfter (k + 1) s m = streamAfter k t (nextStream s m) := by
  simp only [streamAfter, h]

/-- A run without a loss of power keeps the block the image of its stream. -/
theorem runSteps_holdsStream {k : Nat} {s t : State} {m : List Byte} (h : s.block.HoldsStream m)
    (hpower : .powerLoss ∉ s.inputs) (hrun : runSteps k s = .next t) :
    t.block.HoldsStream (streamAfter k s m) := by
  induction k generalizing s m with
  | zero =>
    rw [runSteps_zero] at hrun
    cases hrun
    exact h
  | succ k ih =>
    cases hstep : step s with
    | next u =>
      rw [runSteps_next hstep] at hrun
      rw [streamAfter_next hstep]
      have hhead : s.inputs.head? ≠ some .powerLoss := fun hin => hpower (List.mem_of_head? hin)
      exact ih (stepKeepsStream s u m h hhead hstep) (powerLoss_not_mem_of_step hpower hstep) hrun
    | fault r => cases (runSteps_fault hstep k).symm.trans hrun
    | refused r => cases (runSteps_refused hstep k).symm.trans hrun

/-- Settles O57: the block after reset holds the empty stream, and the run keeps it. -/
theorem reachableStatesHoldTheirStream : Obligations.ReachableStatesHoldTheirStream := by
  intro ins base k t hpower hrun
  obtain ⟨hcrc, hresult, hcount⟩ := runSteps_holdsStream Block.reset_holdsStream hpower hrun
  exact ⟨hcrc, hresult, by rw [hcount, BitVec.toNat_ofNat]⟩

end Sys2Proof.Machine

/-! PROOF. The host procedures for a chunk (41_crc.md R132, R133). -/

namespace Sys2Proof.Machine

/-! ### A run of lines that ends in a read -/

/-- The first of the host's lines completes as its instruction, and the other lines remain. -/
theorem step_withLines_eq (s : State) (l : HostLine) (ls : List HostLine) :
    step (s.withLines (l :: ls)) =
      .next ({ s with block := blockAfter l.instr s.block,
                      response := some (answer l.instr s.block) }.withLines ls) := by
  rw [stepRunsDecodedInstruction (s.withLines (l :: ls)) l.access.op l.access.off
    (s.linesToInputs ls) l.instr rfl rfl (decode_line l), exec_eq]
  rfl

/-- After the host's lines the machine has answered the last of them (R7, R80). -/
theorem runSteps_withLines_last (s : State) (ls : List HostLine) (l : HostLine) :
    ∃ u, runSteps (ls ++ [l]).length (s.withLines (ls ++ [l])) = .next u ∧
      u.block = blockAfter l.instr (blockAfterLines s.block ls) ∧
      u.response = some (answer l.instr (blockAfterLines s.block ls)) := by
  induction ls generalizing s with
  | nil => exact ⟨_, runSteps_next (step_withLines_eq s l []) 0, rfl, rfl⟩
  | cons l' ls ih =>
    obtain ⟨u, hrun, hu⟩ := ih { s with block := blockAfter l'.instr s.block,
                                         response := some (answer l'.instr s.block) }
    exact ⟨u, (runSteps_next (step_withLines_eq s l' (ls ++ [l])) _).trans hrun, hu⟩

/-! ### The lines the two procedures begin with -/

/-- What TYPE_FEED of t feeds: a valid code its four bytes, an invalid one nothing (R106). -/
def typeBytes (t : Word) : List Byte :=
  match classify t with
  | .valid => argBytes t 4
  | .invalid _ => []

theorem typeBytes_valid {t : Word} (h : classify t = .valid) : typeBytes t = argBytes t 4 := by
  simp only [typeBytes, h]

theorem typeBytes_not_valid {t : Word} (h : classify t ≠ .valid) : typeBytes t = [] := by
  cases hc : classify t with
  | valid => exact absurd hc h
  | invalid k => simp only [typeBytes, hc]

theorem streamAfterInstr_typeFeed (b : Block) (m : List Byte) :
    streamAfterInstr .typeFeed b m = m ++ typeBytes b.arg := by
  simp only [streamAfterInstr, typeBytes]
  cases classify b.arg with
  | valid => rfl
  | invalid k => exact (List.append_nil m).symm

/-- TYPE_ERR tells an invalid code, after TYPE_FEED as after TYPE_CHECK (R105, R106). -/
theorem typeErr_typeFeed_iff (b : Block) :
    (blockAfter .typeFeed b).status.typeErr = true ↔ classify b.arg ≠ .valid := by
  obtain ⟨m, he⟩ := blockAfter_typeFeed b
  rcases b.checkType_cases b.arg with ⟨hc, hcheck⟩ | ⟨k, hc, hcheck⟩
  · simp [he, hcheck, hc, Block.acceptType_eq]
  · simp [he, hcheck, hc, Block.raise_type]

/-- The lines up to the payload (R132, R133). -/
def chunkLines (t : Word) (p : List Byte) : List HostLine :=
  Pseudo.crcInit.expand ++ (Pseudo.typeFeed t).expand ++ (Pseudo.crcBytes p).expand

/-- A new stream and TYPE_FEED of t hold the bytes of t, if it is valid. -/
theorem typeFeed_crcInit_holdsStream (b : Block) (t : Word) :
    (blockAfter .typeFeed ((blockAfter .crcInit b).setArg t)).HoldsStream (typeBytes t) := by
  have hinit : ((blockAfter .crcInit b).setArg t).HoldsStream [] :=
    Block.reset_holdsStream.congr rfl rfl
  have hfeed := hinit.blockAfter .typeFeed
  rwa [streamAfterInstr_typeFeed] at hfeed

/-- After the payload the block holds type and payload, and STATUS shows the check of the type. -/
theorem blockAfterLines_chunkLines (b : Block) (t : Word) (p : List Byte) :
    (blockAfterLines b (chunkLines t p)).HoldsStream (typeBytes t ++ p) ∧
      ((blockAfterLines b (chunkLines t p)).status.typeErr = true ↔ classify t ≠ .valid) := by
  obtain ⟨v, hpayload⟩ :=
    blockAfterLines_crcBytesLines p (blockAfter .typeFeed ((blockAfter .crcInit b).setArg t))
  have hlines : blockAfterLines b (chunkLines t p) =
      ((blockAfter .typeFeed ((blockAfter .crcInit b).setArg t)).setArg v).feedBytes p := by
    rw [chunkLines, blockAfterLines_append]
    exact hpayload
  have htype := typeFeed_crcInit_holdsStream b t
  rw [hlines]
  exact ⟨(htype.congr rfl rfl).feedBytes p, typeErr_typeFeed_iff _⟩

/-! ### The procedures -/

/-- Settles O59: the stream is the type and the payload; an invalid type only raises its error. -/
theorem chunkChecksumProcedure : Obligations.ChunkChecksumProcedure := by
  refine ⟨fun s t p hvalid => ?valid, fun s t k hinvalid => ?invalid⟩
  case valid =>
    obtain ⟨u, hrun, hblock, hresponse⟩ :=
      runSteps_withLines_last s (chunkLines t p) (.read .crcResult)
    obtain ⟨⟨-, hresult, hcount⟩, -⟩ := blockAfterLines_chunkLines s.block t p
    rw [typeBytes_valid hvalid] at hresult hcount
    refine ⟨u, hrun, hresponse.trans (congrArg (some <| Response.data ·) hresult), ?_⟩
    rw [hblock]
    refine hcount.trans ?_
    rw [List.length_append, argBytes_length, Nat.add_comm]
  case invalid =>
    obtain ⟨u, hrun, -, hblock⟩ :=
      runSteps_withLines s (Pseudo.crcInit.expand ++ (Pseudo.typeFeed t).expand)
    have hraise (b : Block) : blockAfter .typeFeed (b.setArg t) = (b.setArg t).raise (.type k) :=
      (blockAfter_typeFeed_invalid (b := b.setArg t) hinvalid).trans
        (blockAfter_typeCheck_invalid (b := b.setArg t) hinvalid)
    have hu : u.block = ((blockAfter .crcInit s.block).setArg t).raise (.type k) :=
      hblock.trans (hraise _)
    exact ⟨u, hrun, by rw [hu]; exact ⟨rfl, rfl, rfl, rfl⟩⟩

/-- CRC_CHECK of a stored checksum tells whether it is that of the stream, and keeps TYPE_ERR (R131). -/
theorem Block.HoldsStream.crcCheck {b : Block} {m : List Byte} (h : b.HoldsStream m) (c : Word) :
    ((Machine.blockAfter .crcCheck (b.setArg c)).status.crcMatch = true ↔ c = crc32 m) ∧
      ((Machine.blockAfter .crcCheck (b.setArg c)).status.crcErr = true ↔ c ≠ crc32 m) ∧
      (Machine.blockAfter .crcCheck (b.setArg c)).crcState = feedAll 0xFFFFFFFF m ∧
      (Machine.blockAfter .crcCheck (b.setArg c)).status.typeErr = b.status.typeErr := by
  obtain ⟨hstate, hresult, -⟩ := h
  have hpass : (b.setArg c).crcResult = (b.setArg c).arg ↔ c = crc32 m := by
    rw [← hresult]
    exact eq_comm
  obtain ⟨hmatch, herr⟩ := flags_crcCheck_iff (b.setArg c)
  refine ⟨hmatch.trans hpass, herr.trans (not_congr hpass), ?_⟩
  rcases blockAfter_crcCheck_cases (b.setArg c) with ⟨-, he⟩ | ⟨-, he⟩ <;>
    exact he ▸ ⟨hstate, rfl⟩

/-- Settles O60: CRC_CHECK compares the stored checksum with that of the stream, and keeps TYPE_ERR. -/
theorem chunkVerifyProcedure : Obligations.ChunkVerifyProcedure := by
  intro s t p c
  obtain ⟨u, hrun, hblock, hresponse⟩ :=
    runSteps_withLines_last s (chunkLines t p ++ (Pseudo.crcCheck c).expand) (.read .status)
  obtain ⟨hstream, htype⟩ := blockAfterLines_chunkLines s.block t p
  have hu : u.block =
      blockAfter .crcCheck ((blockAfterLines s.block (chunkLines t p)).setArg c) := by
    rw [hblock, blockAfterLines_append]
    rfl
  obtain ⟨hmatch, herr, hstate, hkeep⟩ := hstream.crcCheck c
  rw [← hu] at hmatch herr hstate hkeep
  refine ⟨u, hrun, ?response, by rw [hkeep, htype], fun hvalid => ?valid, fun hinvalid => ?invalid⟩
  case response => rw [hresponse, hblock]; rfl
  case valid =>
    rw [typeBytes_valid hvalid] at hmatch herr
    exact ⟨hmatch, herr⟩
  case invalid => rw [hstate, typeBytes_not_valid hinvalid, List.nil_append]

end Sys2Proof.Machine

/-! PROOF. The control commands and the illegal words (42_control.md R150 to R153). -/

namespace Sys2Proof.Machine

/-! ### NOP -/

/-- A word that is not illegal is one of the numbers 0 to 9 (R75, R77). -/
theorem exists_lt_ten_of_legal {w : Word} (h : illegalWord w = false) :
    ∃ n < 10, w = BitVec.ofNat 32 n := by
  have hlt : w.toNat < 10 := by simpa [h] using illegalWord_iff_toNat w
  exact ⟨w.toNat, hlt, by simp⟩

/-- Registers that every command but NOP changes: the TYPE error stands at index 1, no CMD or CRC error does, ARG is 0, and CRC_STATE is 0, not its initial value. -/
def typeErrorBlock : Block :=
  { Block.reset with
    crcState := 0
    status := { Status.reset with typeErr := true, typeErrIdx := 1, lastErr := 1 } }

/-- CRC_INIT changes CRC_STATE, the feeds change BYTE_COUNT, and every other command but NOP changes STATUS. -/
theorem blockAfter_decodeCmd_typeErrorBlock_ne {w : Word} (hw : w ≠ 0) :
    blockAfter (decodeCmd w) typeErrorBlock ≠ typeErrorBlock := by
  have hfeed {n : Nat} (h0 : 0 < n) (h4 : n ≤ 4) :
      typeErrorBlock.feedBytes (argBytes typeErrorBlock.arg n) ≠ typeErrorBlock :=
    ne_of_apply_ne Block.byteCount (byteCount_feedBytes_argBytes_ne _ _ h0 h4)
  cases h : illegalWord w with
  | true =>
    rw [decodeCmd_of_illegalWord h]
    exact ne_of_apply_ne (·.status.cmdErr) Bool.noConfusion
  | false =>
    obtain ⟨n, hn, rfl⟩ := exists_lt_ten_of_legal h
    interval_cases n
    · exact absurd rfl hw
    · exact ne_of_apply_ne Block.crcState (by decide)
    · exact hfeed (n := 1) (by decide) (by decide)
    · exact hfeed (n := 2) (by decide) (by decide)
    · exact hfeed (n := 3) (by decide) (by decide)
    · exact hfeed (n := 4) (by decide) (by decide)
    all_goals exact ne_of_apply_ne Block.status (by decide)

/-- Settles O44: every command word but 0 changes the registers that hold a TYPE error. -/
theorem nopAloneHasNoEffect : Obligations.NopAloneHasNoEffect :=
  ⟨decode_cmdWrite 0x00000000, exec_eq .nop, fun w hw =>
    ⟨State.reset.setBlock typeErrorBlock, _, exec_eq (decodeCmd w) _,
      blockAfter_decodeCmd_typeErrorBlock_ne hw⟩⟩

/-! ### CLEAR_STATUS -/

/-- A read of STATUS tells every stored field (R27). -/
theorem Status.ofWord_toWord (st : Status) : Status.ofWord st.toWord = st := by
  obtain ⟨h0, h1, h4, h5, h6, h7, h8, h9, h10⟩ := st.toWord_flags
  simp only [Status.ofWord, h0, h1, st.toWord_typeErrIdx, h4, h5, h6, h7, h8, h9, h10,
    st.toWord_lastErr]

/-- Settles O45: the word read from STATUS determines its fields, so the example is computed. -/
theorem clearStatusClearsErrorsOnly : Obligations.ClearStatusClearsErrorsOnly := by
  refine ⟨decode_cmdWrite 0x00000009, exec_eq .clearStatus,
    exec_repeats (i := .clearStatus) (fun _ => rfl) fun _ => rfl,
    fun s h => ⟨_, exec_eq .clearStatus s, ?sample⟩⟩
  case sample =>
    have hstatus : s.block.status = Status.ofWord 0x0003060A := by rw [← h, Status.ofWord_toWord]
    simp only [blockAfter, Block.clearErrors_eq, hstatus]
    decide

/-! ### Illegal words -/

/-- Of the instructions only CLEAR_STATUS clears CMD_ERR (R37). -/
theorem blockAfter_keeps_cmdErr {i : Instr} (hclear : i ≠ .clearStatus) {b : Block}
    (h : b.status.cmdErr = true) : (blockAfter i b).status.cmdErr = true := by
  by_cases hillegal : ∃ w, i = .illegal w
  · obtain ⟨w, rfl⟩ := hillegal
    rfl
  · rw [blockAfter_cmdErr hclear (not_exists.mp hillegal), h]

/-- Settles O46: the decoder keeps an illegal word as the illegal command, which raises the CMD error. -/
theorem illegalWordRaisesCmdError : Obligations.IllegalWordRaisesCmdError := by
  refine ⟨fun w h => ?decodes, fun w => exec_eq (.illegal w),
    fun s hblock => ⟨_, exec_eq _ s, ?fromReset⟩, fun s t i hclear hset hexec => ?sticky⟩
  case decodes =>
    rw [decode_cmdWrite, decodeCmd_of_illegalWord ((illegalWord_iff_fields w).mpr h)]
  case fromReset =>
    simp only [hblock]
    decide
  case sticky =>
    rw [block_of_exec_next hexec]
    exact blockAfter_keeps_cmdErr hclear hset

end Sys2Proof.Machine

/-! PROOF. Errors never stop the block; accesses outside the window and a loss of power (60_exceptions.md R164 to R176). -/

namespace Sys2Proof.Machine

/-- The decoder accepts every access that an address selects, so that none gets the machine stuck (R165; log 11). -/
theorem State.fetchAccess_ne_stuck (s : State) (op : BusOp) (addr : Nat) (f : Fault) :
    s.fetchAccess op addr ≠ .stuck f := by
  intro hstuck
  rcases s.fetchAccess_cases op addr with
    ⟨-, he⟩ | ⟨a, -, -, he⟩ | ⟨a, i, -, -, -, he⟩ | ⟨a, hsel, -, hrejected, -⟩
  · cases he.symm.trans hstuck
  · cases he.symm.trans hstuck
  · cases he.symm.trans hstuck
  · obtain ⟨-, -, hoff⟩ := State.select_some hsel
    obtain ⟨i, haccepted, -⟩ := decode_service hoff
    cases haccepted.symm.trans hrejected

theorem State.fetch_ne_stuck (s : State) (f : Fault) : s.fetch ≠ .stuck f := by
  unfold State.fetch
  split
  case h_2 op addr rest _ => exact (s.setInputs rest).fetchAccess_ne_stuck op addr f
  all_goals exact Fetched.noConfusion

theorem step_ne_fault (s : State) (f : Fault) : step s ≠ .fault f := by
  intro hfault
  cases hfetch : s.fetch with
  | done t => cases (step_done hfetch).symm.trans hfault
  | run i t =>
    rw [step_run hfetch, exec_eq] at hfault
    cases hfault
  | stuck g => exact s.fetch_ne_stuck g hfetch
  | stop r => cases (step_stop hfetch).symm.trans hfault

/-- Settles O17: an instruction writes the registers and its response alone, and no input gets the machine stuck. -/
theorem everyInstructionCompletes : Obligations.EveryInstructionCompletes :=
  ⟨fun i s => ⟨_, exec_eq i s, rfl, rfl, rfl, rfl, rfl⟩, step_ne_fault⟩

/-- Settles O11: the address selects nothing, which is found before the level of the reset line is. -/
theorem accessOutsideWindowDoesNotReachBlock :
    Obligations.AccessOutsideWindowDoesNotReachBlock := by
  intro s rest op addr hout hin
  have hsel : (s.setInputs rest).select op addr = none := State.select_outside _ op hout
  have hfetch : s.fetch = .done ((s.setInputs rest).respond none) := by
    rw [State.fetch_access hin]
    simp only [State.fetchAccess, hsel]
  exact step_done hfetch

/-- Settles O51: a loss of power leaves the applied reset as the next input, which overwrites every register. -/
theorem resetAfterPowerLoss : Obligations.ResetAfterPowerLoss := by
  intro s rest hin
  have hpower := step_done (State.fetch_powerLoss hin)
  have hreset := step_done
    (State.fetch_reset (s.setInputs (.reset true :: rest)).losePower_inputs)
  exact ⟨_, (runSteps_next hpower 1).trans (runSteps_next hreset 0), rfl, rfl⟩

end Sys2Proof.Machine

/-! PROOF. What reset leaves, and the refusal of an access during reset (70_reset_and_hazards.md R180 to R182). -/

namespace Sys2Proof.Machine

/-- STATUS reads 0 after reset (R180). -/
theorem Block.reset_statusWord : Block.reset.status.toWord = 0x00000000 := by decide

/-- CRC_RESULT reads 0 after reset, as the final XOR undoes the initial value (R182). -/
theorem Block.reset_crcResult : Block.reset.crcState ^^^ 0xFFFFFFFF = 0x00000000 :=
  BitVec.xor_self

/-- While reset is applied, an access of the window is refused before it is decoded (R181). -/
theorem State.fetchAccess_duringReset {s : State} (op : BusOp) {off : Nat}
    (hreset : s.resetLine = true) (hoff : off < 32) :
    s.fetchAccess op (s.base + off) = .stop .accessDuringReset := by
  have hsel := s.select_base op hoff
  simp only [State.fetchAccess, hsel, hreset, if_true]

/-- Settles O47: the step takes the applied reset, and STATUS of the block it leaves reads 0. -/
theorem resetSetsEveryRegister : Obligations.ResetSetsEveryRegister :=
  ⟨fun _ _ hin => ⟨_, step_done (State.fetch_reset hin), rfl, rfl, rfl, rfl,
      Block.reset_statusWord, rfl⟩,
    rfl, rfl, rfl, rfl, Block.reset_statusWord⟩

/-- Settles O49: the access selects its offset of the window, where the level of the reset line refuses it. -/
theorem accessDuringResetIsRefused : Obligations.AccessDuringResetIsRefused := by
  intro s rest op off hreset hoff hin
  have hfetch : s.fetch = .stop .accessDuringReset := by
    rw [State.fetch_access hin]
    exact State.fetchAccess_duringReset (s := s.setInputs rest) op hreset hoff
  exact step_stop hfetch

/-- Settles O50: each read answers its register (R51), whose reset value is known, and no byte has been fed. -/
theorem afterResetNothingFed : Obligations.AfterResetNothingFed := by
  intro s hblock
  obtain ⟨-, -, hstatus, -, hresult, hcount, -⟩ := readsAnswerTheRegister s
  rw [hblock, Block.reset_statusWord] at hstatus
  rw [hblock, Block.reset_crcResult] at hresult
  rw [hblock] at hcount ⊢
  exact ⟨⟨_, hresult, rfl⟩, ⟨_, hcount, rfl⟩, ⟨_, hstatus, rfl⟩, rfl, rfl, rfl,
    Block.reset_holdsStream⟩

end Sys2Proof.Machine

/-! PROOF. What a release of reset keeps, by the model's choice (log 6). -/

namespace Sys2Proof.Machine

/-- Settles O48: taking a release finishes the step; it sets the input, the response and the line, and no register. -/
theorem releasingResetKeepsTheBlock : Obligations.ReleasingResetKeepsTheBlock :=
  fun _ _ hin => step_done (State.fetch_release hin)

end Sys2Proof.Machine
